-- ==== Sys2Proof/Word.lean ====
section
/-!
DEFINITION. The two word types of GBE-CORE (00_scope.md R6): bytes, and 16-bit addresses, pairs, PC and SP.
Bit-field and byte-order helpers are in Machine/Bits.lean.
-/

namespace Sys2Proof

/-- An 8-bit value: a register, a memory byte, an opcode (R6). -/
abbrev Byte := BitVec 8

/-- A 16-bit value: PC, SP, a register pair, an address (R6). -/
abbrev Word := BitVec 16

end Sys2Proof
end

