-- ==== Sys2Proof/Machine/Bits.lean ====
section
/-!
DEFINITION. Bit-field, sign-extension and byte-order helpers (00_scope.md R9, R10; 20_memory.md R82, R84, R89).
-/

namespace Sys2Proof.Machine

/-- `H:L`: the word with high byte `hi` and low byte `lo` (R9, R32), also the little-endian word whose low byte is
at the lower address (R82). -/
def wordOf (hi lo : Byte) : Word := hi ++ lo

/-- `v[7:0]` of a word (R33, R84). -/
def lo8 (v : Word) : Byte := v.extractLsb' 0 8

/-- `v[15:8]` of a word (R33, R84). -/
def hi8 (v : Word) : Byte := v.extractLsb' 8 8

/-- `lo4(v) = v[3:0]`, as an unbounded integer (R9, R10). -/
def lo4 (v : Byte) : Nat := v.toNat % 16

/-- `hi4(v) = v[7:4]`, as an unbounded integer (R9, R10). -/
def hi4 (v : Byte) : Nat := v.toNat / 16

/-- `s8(v)`: the two's-complement integer of a byte, in [-128, 127] (R10). -/
def s8 (v : Byte) : Int := v.toInt

/-- `sext_16(v)`: `v` if `v < 0x80`, else `v + 0xFF00` (R10). -/
def sext16 (v : Byte) : Word := v.signExtend 16

/-- `zext_16(v)` (R10). -/
def zext16 (v : Byte) : Word := v.setWidth 16

end Sys2Proof.Machine
end

