-- ==== Sys2Proof/Config.lean ====
section
/-!
DEFINITION. The parameters of 00_scope.md R7 that are fixed for one machine, and the reset profile.
They are plain data so that `State` can carry them (log 6). `MEM` is the default plain array or an external Memory
Interface, whose answers are the one free value of the model (log 4); `MEM_INIT` is an argument of construction.
-/

namespace Sys2Proof

/-- `OPCODE_SET` (R7, D1): the table of both tiers, or the 24 source-tier bytes of R133. -/
inductive OpcodeSet where
  | full
  | sourceOnly
deriving DecidableEq, Repr

/-- `UNDEF_READ` (R7, R62, D25): what a read of a register or flag that is still unspecified does.
`fault` ends the step with UndefinedRead; under `draw` the read returns the value drawn at construction. -/
inductive UndefRead where
  | fault
  | draw
deriving DecidableEq, Repr

/-- `INTERRUPT_PORT` (R7, D10): whether the host may call `interrupt(k)` and `wake()`. -/
inductive InterruptPort where
  | absent
  | present
deriving DecidableEq, Repr

/-- `RESET_PROFILE` (R7, R60, D7): acts at construction only. -/
inductive ResetProfile where
  | powerOn
  | postBootDmg
deriving DecidableEq, Repr

/-- `MEM` (R7, 93 U7): the default plain array of 65,536 bytes without side effects, or any other pair of total
functions `readByte` and `writeByte`. -/
inductive MemoryInterface where
  | array
  | external
deriving DecidableEq, Repr

/-- One call of the Memory Interface (20_memory.md R80, R94). -/
inductive Machine.Access where
  | read (a : Word)
  | write (a : Word) (v : Byte)
deriving DecidableEq, Repr

/-- What `readByte(a)` of an external Memory Interface answers, from its initial contents and every call made on it since
construction, the writes among them. Nothing is known of it (20_memory.md R85, R95; 93 U7), so a statement holds for
every `MEM`: side effects, banks, read-only ranges and devices are each one such function (log 4). -/
opaque Config.externalRead (memInit : List (Nat × Byte)) (calls : List Machine.Access) (a : Word) : Byte

/-- The parameters a running machine reads. No step changes them (log 6). -/
structure Config where
  opcodeSet     : OpcodeSet
  undefRead     : UndefRead
  interruptPort : InterruptPort
  memory        : MemoryInterface
deriving DecidableEq, Repr

/-- The parameters of `State.reset`: the defaults of R7 for `OPCODE_SET`, `INTERRUPT_PORT` and `MEM`; `UNDEF_READ = DRAW`,
the spec's other legal value, because every register holds a value at reset (DESIGN CHOICE, log 2). -/
def Config.atReset : Config :=
  { opcodeSet := .full, undefRead := .draw, interruptPort := .absent, memory := .array }

end Sys2Proof
end

