-- ==== Sys2Proof/Syntax.lean ====
section
/-!
DEFINITION. The syntax of GBE-CORE's instructions. `Instr` has one constructor for each mnemonic of
spec/opcode_table.json, named after the mnemonic the spec writes (LD B,(HL) is `ld_B_atHL`, RST $08 is `rst_08`).
`Form` is the same instruction read as an operation with operands (30_encoding.md R121 to R129):
`Instr.form` (Decode.lean) maps one to the other, and the encoder, the costs and the renderer are written over it.
-/

namespace Sys2Proof

/-- The seven 8-bit registers (R31). -/
inductive Reg8 where
  | a | b | c | d | e | h | l
deriving DecidableEq, Repr

/-- The register pairs that are views of two 8-bit registers (R32). -/
inductive Pair where
  | bc | de | hl
deriving DecidableEq, Repr

/-- The pair operand `rp` (R125): a register pair or SP. -/
inductive Rp where
  | pair (p : Pair)
  | sp
deriving DecidableEq, Repr

/-- The pair operand `rp2` of PUSH and POP (R125): a register pair or AF (R34). -/
inductive Rp2 where
  | pair (p : Pair)
  | af
deriving DecidableEq, Repr

/-- The pairs that LD A,(rp) and LD (rp),A address through (R375 to R378). -/
inductive Ind where
  | bc | de
deriving DecidableEq, Repr

/-- The four conditions (R126, R200). -/
inductive Cond where
  | nz | z | nc | c
deriving DecidableEq, Repr

/-- Post-increment or post-decrement of HL (R385 to R388). -/
inductive HlStep where
  | inc | dec
deriving DecidableEq, Repr

/-- The operand a register code selects (R14, R124): a register, or the byte in memory at HL. -/
inductive Operand8 where
  | reg (r : Reg8)
  | atHL
deriving DecidableEq, Repr

/-- The 8-bit ALU operations (R127). -/
inductive AluOp where
  | add | adc | sub | sbc | and | xor | or | cp
deriving DecidableEq, Repr

/-- The second operand of an ALU operation: a coded operand or the immediate n. -/
inductive AluSrc where
  | opd (o : Operand8)
  | imm (n : Byte)
deriving DecidableEq, Repr

/-- The accumulator rotates (R321 to R324). -/
inductive AccRot where
  | rlca | rrca | rla | rra
deriving DecidableEq, Repr

/-- The CB-prefixed rotates, shifts and SWAP (R128, R325 to R332). -/
inductive CbRot where
  | rlc | rrc | rl | rr | sla | sra | swap | srl
deriving DecidableEq, Repr

/-- An instruction as an operation and its operands. -/
inductive Form where
  -- 41_control_flow.md
  | jp (nn : Word)
  | jpCc (cc : Cond) (nn : Word)
  | jr (e : Byte)
  | jrCc (cc : Cond) (e : Byte)
  | jpHl
  | call (nn : Word)
  | callCc (cc : Cond) (nn : Word)
  | ret
  | retCc (cc : Cond)
  | reti
  /-- RST t with t = 8 * y (R129, R211). -/
  | rst (y : Fin 8)
  -- 42_compare_xor.md and 43_alu8.md
  | alu (op : AluOp) (src : AluSrc)
  | inc8 (o : Operand8)
  | dec8 (o : Operand8)
  | daa | cpl | scf | ccf
  -- 44_rotate_shift_bit.md
  | accRot (k : AccRot)
  | prefixCb (sub : Byte)
  | cbRot (k : CbRot) (o : Operand8)
  | bit (b : Fin 8) (o : Operand8)
  | res (b : Fin 8) (o : Operand8)
  | set (b : Fin 8) (o : Operand8)
  -- 45_load_store.md
  | ldRegReg (dst src : Reg8)
  | ldRegHl (dst : Reg8)
  | ldHlReg (src : Reg8)
  | ldRegN (dst : Reg8) (n : Byte)
  | ldHlN (n : Byte)
  | ldAInd (p : Ind)
  | ldIndA (p : Ind)
  | ldANn (nn : Word)
  | ldNnA (nn : Word)
  | ldhNA (n : Byte)
  | ldhAN (n : Byte)
  | ldCA
  | ldAC
  | ldHlStepA (k : HlStep)
  | ldAHlStep (k : HlStep)
  | ldRpNn (rp : Rp) (nn : Word)
  | ldSpHl
  | ldNnSp (nn : Word)
  | push (rp : Rp2)
  | pop (rp : Rp2)
  -- 46_alu16.md
  | inc16 (rp : Rp)
  | dec16 (rp : Rp)
  | addHl (rp : Rp)
  | addSp (e : Byte)
  | ldHlSp (e : Byte)
  -- 47_system.md
  | nop
  | illegal (op : Byte)
  | halt
  | stop (second : Byte)
  | di
  | ei
deriving DecidableEq, Repr

/-- The instructions, those with operands first, each group in the order of spec/opcode_table.json. `n` and `e` are the
raw operand byte, `nn` the operand word (R121); ILLEGAL carries which of the eleven bytes it is (R132), PREFIX_CB its
sub-opcode (R177). STOP carries its second byte, normally 0x00, which no step reads and only the renderer shows (R463). -/
inductive Instr where
  | ld_BC_nn (nn : Word)
  | ld_B_n (n : Byte)
  | ld_atnn_SP (nn : Word)
  | ld_C_n (n : Byte)
  | ld_DE_nn (nn : Word)
  | ld_D_n (n : Byte)
  | jr_e (e : Byte)
  | ld_E_n (n : Byte)
  | jr_NZ_e (e : Byte)
  | ld_HL_nn (nn : Word)
  | ld_H_n (n : Byte)
  | jr_Z_e (e : Byte)
  | ld_L_n (n : Byte)
  | jr_NC_e (e : Byte)
  | ld_SP_nn (nn : Word)
  | ld_atHL_n (n : Byte)
  | jr_C_e (e : Byte)
  | ld_A_n (n : Byte)
  | jp_NZ_nn (nn : Word)
  | jp_nn (nn : Word)
  | call_NZ_nn (nn : Word)
  | add_A_n (n : Byte)
  | jp_Z_nn (nn : Word)
  | prefix_CB (sub : Byte)
  | call_Z_nn (nn : Word)
  | call_nn (nn : Word)
  | adc_A_n (n : Byte)
  | jp_NC_nn (nn : Word)
  | illegal (op : Byte)
  | call_NC_nn (nn : Word)
  | sub_n (n : Byte)
  | jp_C_nn (nn : Word)
  | call_C_nn (nn : Word)
  | sbc_A_n (n : Byte)
  | ldh_atn_A (n : Byte)
  | and_n (n : Byte)
  | add_SP_e (e : Byte)
  | ld_atnn_A (nn : Word)
  | xor_n (n : Byte)
  | ldh_A_atn (n : Byte)
  | or_n (n : Byte)
  | ld_HL_SPe (e : Byte)
  | ld_A_atnn (nn : Word)
  | cp_n (n : Byte)
  | nop
  | ld_atBC_A
  | inc_BC
  | inc_B
  | dec_B
  | rlca
  | add_HL_BC
  | ld_A_atBC
  | dec_BC
  | inc_C
  | dec_C
  | rrca
  | stop (second : Byte := 0x00)
  | ld_atDE_A
  | inc_DE
  | inc_D
  | dec_D
  | rla
  | add_HL_DE
  | ld_A_atDE
  | dec_DE
  | inc_E
  | dec_E
  | rra
  | ld_atHLinc_A
  | inc_HL
  | inc_H
  | dec_H
  | daa
  | add_HL_HL
  | ld_A_atHLinc
  | dec_HL
  | inc_L
  | dec_L
  | cpl
  | ld_atHLdec_A
  | inc_SP
  | inc_atHL
  | dec_atHL
  | scf
  | add_HL_SP
  | ld_A_atHLdec
  | dec_SP
  | inc_A
  | dec_A
  | ccf
  | ld_B_B
  | ld_B_C
  | ld_B_D
  | ld_B_E
  | ld_B_H
  | ld_B_L
  | ld_B_atHL
  | ld_B_A
  | ld_C_B
  | ld_C_C
  | ld_C_D
  | ld_C_E
  | ld_C_H
  | ld_C_L
  | ld_C_atHL
  | ld_C_A
  | ld_D_B
  | ld_D_C
  | ld_D_D
  | ld_D_E
  | ld_D_H
  | ld_D_L
  | ld_D_atHL
  | ld_D_A
  | ld_E_B
  | ld_E_C
  | ld_E_D
  | ld_E_E
  | ld_E_H
  | ld_E_L
  | ld_E_atHL
  | ld_E_A
  | ld_H_B
  | ld_H_C
  | ld_H_D
  | ld_H_E
  | ld_H_H
  | ld_H_L
  | ld_H_atHL
  | ld_H_A
  | ld_L_B
  | ld_L_C
  | ld_L_D
  | ld_L_E
  | ld_L_H
  | ld_L_L
  | ld_L_atHL
  | ld_L_A
  | ld_atHL_B
  | ld_atHL_C
  | ld_atHL_D
  | ld_atHL_E
  | ld_atHL_H
  | ld_atHL_L
  | halt
  | ld_atHL_A
  | ld_A_B
  | ld_A_C
  | ld_A_D
  | ld_A_E
  | ld_A_H
  | ld_A_L
  | ld_A_atHL
  | ld_A_A
  | add_A_B
  | add_A_C
  | add_A_D
  | add_A_E
  | add_A_H
  | add_A_L
  | add_A_atHL
  | add_A_A
  | adc_A_B
  | adc_A_C
  | adc_A_D
  | adc_A_E
  | adc_A_H
  | adc_A_L
  | adc_A_atHL
  | adc_A_A
  | sub_B
  | sub_C
  | sub_D
  | sub_E
  | sub_H
  | sub_L
  | sub_atHL
  | sub_A
  | sbc_A_B
  | sbc_A_C
  | sbc_A_D
  | sbc_A_E
  | sbc_A_H
  | sbc_A_L
  | sbc_A_atHL
  | sbc_A_A
  | and_B
  | and_C
  | and_D
  | and_E
  | and_H
  | and_L
  | and_atHL
  | and_A
  | xor_B
  | xor_C
  | xor_D
  | xor_E
  | xor_H
  | xor_L
  | xor_atHL
  | xor_A
  | or_B
  | or_C
  | or_D
  | or_E
  | or_H
  | or_L
  | or_atHL
  | or_A
  | cp_B
  | cp_C
  | cp_D
  | cp_E
  | cp_H
  | cp_L
  | cp_atHL
  | cp_A
  | ret_NZ
  | pop_BC
  | push_BC
  | rst_00
  | ret_Z
  | ret
  | rst_08
  | ret_NC
  | pop_DE
  | push_DE
  | rst_10
  | ret_C
  | reti
  | rst_18
  | pop_HL
  | ld_atC_A
  | push_HL
  | rst_20
  | jp_HL
  | rst_28
  | pop_AF
  | ld_A_atC
  | di
  | push_AF
  | rst_30
  | ld_SP_HL
  | ei
  | rst_38
  | rlc_B
  | rlc_C
  | rlc_D
  | rlc_E
  | rlc_H
  | rlc_L
  | rlc_atHL
  | rlc_A
  | rrc_B
  | rrc_C
  | rrc_D
  | rrc_E
  | rrc_H
  | rrc_L
  | rrc_atHL
  | rrc_A
  | rl_B
  | rl_C
  | rl_D
  | rl_E
  | rl_H
  | rl_L
  | rl_atHL
  | rl_A
  | rr_B
  | rr_C
  | rr_D
  | rr_E
  | rr_H
  | rr_L
  | rr_atHL
  | rr_A
  | sla_B
  | sla_C
  | sla_D
  | sla_E
  | sla_H
  | sla_L
  | sla_atHL
  | sla_A
  | sra_B
  | sra_C
  | sra_D
  | sra_E
  | sra_H
  | sra_L
  | sra_atHL
  | sra_A
  | swap_B
  | swap_C
  | swap_D
  | swap_E
  | swap_H
  | swap_L
  | swap_atHL
  | swap_A
  | srl_B
  | srl_C
  | srl_D
  | srl_E
  | srl_H
  | srl_L
  | srl_atHL
  | srl_A
  | bit_0_B
  | bit_0_C
  | bit_0_D
  | bit_0_E
  | bit_0_H
  | bit_0_L
  | bit_0_atHL
  | bit_0_A
  | bit_1_B
  | bit_1_C
  | bit_1_D
  | bit_1_E
  | bit_1_H
  | bit_1_L
  | bit_1_atHL
  | bit_1_A
  | bit_2_B
  | bit_2_C
  | bit_2_D
  | bit_2_E
  | bit_2_H
  | bit_2_L
  | bit_2_atHL
  | bit_2_A
  | bit_3_B
  | bit_3_C
  | bit_3_D
  | bit_3_E
  | bit_3_H
  | bit_3_L
  | bit_3_atHL
  | bit_3_A
  | bit_4_B
  | bit_4_C
  | bit_4_D
  | bit_4_E
  | bit_4_H
  | bit_4_L
  | bit_4_atHL
  | bit_4_A
  | bit_5_B
  | bit_5_C
  | bit_5_D
  | bit_5_E
  | bit_5_H
  | bit_5_L
  | bit_5_atHL
  | bit_5_A
  | bit_6_B
  | bit_6_C
  | bit_6_D
  | bit_6_E
  | bit_6_H
  | bit_6_L
  | bit_6_atHL
  | bit_6_A
  | bit_7_B
  | bit_7_C
  | bit_7_D
  | bit_7_E
  | bit_7_H
  | bit_7_L
  | bit_7_atHL
  | bit_7_A
  | res_0_B
  | res_0_C
  | res_0_D
  | res_0_E
  | res_0_H
  | res_0_L
  | res_0_atHL
  | res_0_A
  | res_1_B
  | res_1_C
  | res_1_D
  | res_1_E
  | res_1_H
  | res_1_L
  | res_1_atHL
  | res_1_A
  | res_2_B
  | res_2_C
  | res_2_D
  | res_2_E
  | res_2_H
  | res_2_L
  | res_2_atHL
  | res_2_A
  | res_3_B
  | res_3_C
  | res_3_D
  | res_3_E
  | res_3_H
  | res_3_L
  | res_3_atHL
  | res_3_A
  | res_4_B
  | res_4_C
  | res_4_D
  | res_4_E
  | res_4_H
  | res_4_L
  | res_4_atHL
  | res_4_A
  | res_5_B
  | res_5_C
  | res_5_D
  | res_5_E
  | res_5_H
  | res_5_L
  | res_5_atHL
  | res_5_A
  | res_6_B
  | res_6_C
  | res_6_D
  | res_6_E
  | res_6_H
  | res_6_L
  | res_6_atHL
  | res_6_A
  | res_7_B
  | res_7_C
  | res_7_D
  | res_7_E
  | res_7_H
  | res_7_L
  | res_7_atHL
  | res_7_A
  | set_0_B
  | set_0_C
  | set_0_D
  | set_0_E
  | set_0_H
  | set_0_L
  | set_0_atHL
  | set_0_A
  | set_1_B
  | set_1_C
  | set_1_D
  | set_1_E
  | set_1_H
  | set_1_L
  | set_1_atHL
  | set_1_A
  | set_2_B
  | set_2_C
  | set_2_D
  | set_2_E
  | set_2_H
  | set_2_L
  | set_2_atHL
  | set_2_A
  | set_3_B
  | set_3_C
  | set_3_D
  | set_3_E
  | set_3_H
  | set_3_L
  | set_3_atHL
  | set_3_A
  | set_4_B
  | set_4_C
  | set_4_D
  | set_4_E
  | set_4_H
  | set_4_L
  | set_4_atHL
  | set_4_A
  | set_5_B
  | set_5_C
  | set_5_D
  | set_5_E
  | set_5_H
  | set_5_L
  | set_5_atHL
  | set_5_A
  | set_6_B
  | set_6_C
  | set_6_D
  | set_6_E
  | set_6_H
  | set_6_L
  | set_6_atHL
  | set_6_A
  | set_7_B
  | set_7_C
  | set_7_D
  | set_7_E
  | set_7_H
  | set_7_L
  | set_7_atHL
  | set_7_A
deriving DecidableEq, Repr

end Sys2Proof
end

