-- ==== Sys2Proof/Machine/State.lean ====
section
/-!
DEFINITION. The state of one core (10_state.md R30), its memory, the parameters it runs under, and what a step can
answer. State is plain data. The operations on it are in Ops.lean and Operands.lean.
-/

namespace Sys2Proof.Machine

/-- Memory as (address, byte) pairs, in the canonical form of `Memory.wf` (Ops.lean). An address that is not listed
reads as `Memory.unlisted`. -/
abbrev Memory := List Host.Cell

/-- The registers and flags whose value may be unspecified since construction (R49). -/
inductive Named where
  | reg (r : Reg8)
  | sp
  | fZ
  | fN
  | fH
  | fC
deriving DecidableEq, Repr

/-- The "specified" bits of R49, one for each of A, B, C, D, E, H, L, sp, fZ, fN, fH and fC. -/
structure Specified where
  a  : Bool
  b  : Bool
  c  : Bool
  d  : Bool
  e  : Bool
  h  : Bool
  l  : Bool
  sp : Bool
  fZ : Bool
  fN : Bool
  fH : Bool
  fC : Bool
deriving DecidableEq, Repr

/-- Every bit clear: construction under `POWER_ON` (R49). -/
def Specified.none : Specified :=
  { a := false, b := false, c := false, d := false, e := false, h := false, l := false, sp := false,
    fZ := false, fN := false, fH := false, fC := false }

/-- Every bit set: construction under `POST_BOOT_DMG` (R49). -/
def Specified.all : Specified :=
  { a := true, b := true, c := true, d := true, e := true, h := true, l := true, sp := true,
    fZ := true, fN := true, fH := true, fC := true }

/-- The state. `a` to `eiPending` are the tuple of R30; `mem` is the contents of the default `MEM` (R7, R86), or the
`MEM_INIT` that an external `MEM` began with; `history` is every call made on an external `MEM`, which is all that its
answers depend on, and stays empty with the array (log 4); `specified` is R49;
`config` holds the parameters of R7 (log 6); `cost` is what the last completed step handed back, and `accesses` are the
calls that the last step, completed or Unimplemented, made on the Memory Interface (log 5). -/
structure State where
  a         : Byte
  b         : Byte
  c         : Byte
  d         : Byte
  e         : Byte
  h         : Byte
  l         : Byte
  pc        : Word
  sp        : Word
  fZ        : Bool
  fN        : Bool
  fH        : Bool
  fC        : Bool
  ime       : Bool
  eiPending : Bool
  mem       : Memory
  history   : List Access
  specified : Specified
  config    : Config
  cost      : Nat
  accesses  : List Access
deriving DecidableEq, Repr

/-- Why a step ends without a next state. No register, flag, IME, EI_PENDING or byte of memory differs after either from
before the step (40_dispatch.md R176, R180; 60_exceptions.md R495; log 13). -/
inductive Fault where
  /-- `Unimplemented({opcode, address})` (R176, R490): raised by `step` and by ILLEGAL for a byte with no descriptor.
  `left` is the state the step leaves: the one before it, and the opcode fetch told to the Memory Interface (R94, R176).
  Safe: the spec's own outcome, the host decides what follows (R496). -/
  | unimplemented (opcode : Byte) (address : Word) (left : State)
  /-- `UndefinedRead(name)` (R180, R492): raised by `step` and by `interrupt` under `UNDEF_READ = FAULT` for a register
  or flag not written since construction. The state is the one before. Safe: the spec's own model fault; unsafe for what
  a device was told before it (log 17). Never raised from `State.reset`. -/
  | undefinedRead (name : Named)
deriving DecidableEq, Repr

/-- Why a call has no meaning. -/
inductive Refusal where
  /-- Raised by no arm of `exec`: every instruction has its meaning. Safe. -/
  | notModelled (mnemonic : String)
  /-- Raised by `interrupt` and `wake` under `INTERRUPT_PORT = ABSENT`, where they do not exist (R500). Safe. -/
  | interruptPortAbsent
  /-- Raised by `interrupt(k)` for k outside 0..4 (93_implementation_defined.md U10). Safe. -/
  | interruptIndexOutOfRange (k : Nat)
deriving DecidableEq, Repr

/-- What a step or a meaning answers. -/
abbrev Result := Host.Outcome State Fault Refusal

/-- The machine right after construction with the parameters of `Config.atReset` and `RESET_PROFILE = POWER_ON` (R60,
R531): pc = 0x0000, IME = EI_PENDING = 0. The registers, sp and the flags are unspecified by the spec and hold 0
(DESIGN CHOICE, log 1), no memory byte is listed (log 3), no step has run (log 5). -/
def State.reset : State :=
  { a := 0, b := 0, c := 0, d := 0, e := 0, h := 0, l := 0
    pc := 0x0000, sp := 0
    fZ := false, fN := false, fH := false, fC := false
    ime := false, eiPending := false
    mem := []
    history := []
    specified := Specified.none
    config := Config.atReset
    cost := 0, accesses := [] }

end Sys2Proof.Machine
end

