-- ==== Sys2Proof/Machine/Ops.lean ====
section
/-!
DEFINITION. The named operations over memory, registers and flags that every meaning is written with: the memory
primitives of 20_memory.md R80 to R84, the register and flag accessors of 00_scope.md R11, the fetch primitives of R13,
the stack primitives of 45_load_store.md R392 and R393, interrupt entry (60_exceptions.md R500) and the return from it.
-/

namespace Sys2Proof.Machine

/-! ## Memory as data -/

/-- What an address that is not listed reads as (DESIGN CHOICE, log 3; the convention of 95_test_vectors.md). -/
def Memory.unlisted : Byte := 0x00

/-- The byte at an address. -/
def Memory.read : Memory → Nat → Byte
  | [], _ => Memory.unlisted
  | (k, v) :: m, a => if k = a then v else Memory.read m a

/-- The memory without an entry for `a`. -/
def Memory.erase : Memory → Nat → Memory
  | [], _ => []
  | (k, v) :: m, a => if k = a then Memory.erase m a else (k, v) :: Memory.erase m a

/-- The memory with an entry for `a` before the first greater address. -/
def Memory.insert : Memory → Nat → Byte → Memory
  | [], a, v => [(a, v)]
  | (k, w) :: m, a, v => if a < k then (a, v) :: (k, w) :: m else (k, w) :: Memory.insert m a v

/-- The memory with the byte at `a` set to `v`; the value an unlisted address reads as is not listed. -/
def Memory.write (m : Memory) (a : Nat) (v : Byte) : Memory :=
  if v = Memory.unlisted then Memory.erase m a else Memory.insert (Memory.erase m a) a v

/-- Every address at least `lo`, strictly rising, inside the space of R86, and no entry equal to the unlisted value. -/
def Memory.wfFrom : Nat → Memory → Bool
  | _, [] => true
  | lo, (k, v) :: m => decide (lo ≤ k) && decide (k < 65536) && !(v == Memory.unlisted) && Memory.wfFrom (k + 1) m

/-- The canonical form of a memory: equal memories are equal data. -/
def Memory.wf (m : Memory) : Bool := Memory.wfFrom 0 m

/-! ## Registers and flags -/

/-- `reg[X]` (R11, R31). -/
def State.reg (s : State) : Reg8 → Byte
  | .a => s.a | .b => s.b | .c => s.c | .d => s.d | .e => s.e | .h => s.h | .l => s.l

/-- `reg[X] <- v` (R11, R35); the write makes the register specified (R49). -/
def State.setReg (r : Reg8) (v : Byte) (s : State) : State :=
  match r with
  | .a => { s with a := v, specified := { s.specified with a := true } }
  | .b => { s with b := v, specified := { s.specified with b := true } }
  | .c => { s with c := v, specified := { s.specified with c := true } }
  | .d => { s with d := v, specified := { s.specified with d := true } }
  | .e => { s with e := v, specified := { s.specified with e := true } }
  | .h => { s with h := v, specified := { s.specified with h := true } }
  | .l => { s with l := v, specified := { s.specified with l := true } }

/-- `pc <- v` (R11, R38). -/
def State.setPc (v : Word) (s : State) : State := { s with pc := v }

/-- `sp <- v` (R11, R41); the write makes sp specified (R49). -/
def State.setSp (v : Word) (s : State) : State :=
  { s with sp := v, specified := { s.specified with sp := true } }

/-- `fZ <- v` (R11, R42). -/
def State.setZ (v : Bool) (s : State) : State :=
  { s with fZ := v, specified := { s.specified with fZ := true } }

/-- `fN <- v` (R11, R42). -/
def State.setN (v : Bool) (s : State) : State :=
  { s with fN := v, specified := { s.specified with fN := true } }

/-- `fH <- v` (R11, R42). -/
def State.setH (v : Bool) (s : State) : State :=
  { s with fH := v, specified := { s.specified with fH := true } }

/-- `fC <- v` (R11, R42). -/
def State.setC (v : Bool) (s : State) : State :=
  { s with fC := v, specified := { s.specified with fC := true } }

/-- `IME <- v` (R45). -/
def State.setIme (v : Bool) (s : State) : State := { s with ime := v }

/-- `EI_PENDING <- v` (R46). -/
def State.setEiPending (v : Bool) (s : State) : State := { s with eiPending := v }

/-- The memory as a whole. -/
def State.setMem (m : Memory) (s : State) : State := { s with mem := m }

/-- The cost a step hands back (R173, log 5). -/
def State.setCost (c : Nat) (s : State) : State := { s with cost := c }

/-- No call made yet: the start of a step (R94, log 5). -/
def State.beginCalls (s : State) : State := { s with accesses := [] }

/-- Whether a register or flag has been specified since construction (R49). -/
def Specified.get (m : Specified) : Named → Bool
  | .reg .a => m.a | .reg .b => m.b | .reg .c => m.c | .reg .d => m.d | .reg .e => m.e | .reg .h => m.h
  | .reg .l => m.l | .sp => m.sp | .fZ => m.fZ | .fN => m.fN | .fH => m.fH | .fC => m.fC

/-! ## The Memory Interface -/

/-- The byte `readByte(a)` answers once `calls` have been made after those of the state (R81, R95): the array's byte, or
what an external `MEM` answers (log 4). -/
def State.answer (s : State) (calls : List Access) (a : Word) : Byte :=
  match s.config.memory with
  | .array => Memory.read s.mem a.toNat
  | .external => Config.externalRead s.mem (s.history ++ calls) a

/-- The byte a read at an address answers now: `MemRead(a, 1)` (R81). -/
def State.peek (s : State) (a : Word) : Byte := s.answer [] a

/-- The history once `calls` have been made: an external `MEM` is told every call (log 4). -/
def State.logged (s : State) (calls : List Access) : List Access :=
  match s.config.memory with
  | .array => s.history
  | .external => s.history ++ calls

/-- One more call on the Memory Interface (R94, logs 4 and 5). -/
def State.record (x : Access) (s : State) : State :=
  { s with accesses := s.accesses ++ [x], history := s.logged [x] }

/-- The byte put in the array; what an external `MEM` does with a write is its own (R84, R95). -/
def State.store (a : Word) (v : Byte) (s : State) : State :=
  match s.config.memory with
  | .array => s.setMem (Memory.write s.mem a.toNat v)
  | .external => s

/-- `MemRead(a, 1)` (R81): the byte, and the call made. -/
def readByte (a : Word) (s : State) : Byte × State := (s.peek a, s.record (.read a))

/-- `MemWrite(a, 1, v)` (R84). It never fails (R85). -/
def writeByte (a : Word) (v : Byte) (s : State) : State := (s.store a v).record (.write a v)

/-- `MemRead(a, 2)` (R82): little-endian, the low byte first, the high byte at `u16(a+1)`. -/
def readWord (a : Word) (s : State) : Word × State :=
  let lo := readByte a s
  let hi := readByte (a + 1) lo.2
  (wordOf hi.1 lo.1, hi.2)

/-- `MemReadS8(a)` (R83). -/
def readSigned (a : Word) (s : State) : Int × State :=
  let b := readByte a s
  (s8 b.1, b.2)

/-- `MemWrite(a, 2, v)` (R84): the low byte at `a`, then the high byte at `u16(a+1)`. -/
def writeWord (a v : Word) (s : State) : State :=
  writeByte (a + 1) (hi8 v) (writeByte a (lo8 v) s)

/-! ## Fetching -/

/-- `fetch8()` (R13). -/
def fetch8 (s : State) : Byte × State :=
  let b := readByte s.pc s
  (b.1, b.2.setPc (s.pc + 1))

/-- `fetch16()` (R13). -/
def fetch16 (s : State) : Word × State :=
  let w := readWord s.pc s
  (w.1, w.2.setPc (s.pc + 2))

/-- `fetchS8()` (R13). -/
def fetchS8 (s : State) : Int × State :=
  let b := readSigned s.pc s
  (b.1, b.2.setPc (s.pc + 1))

/-- `n` bytes fetched one after the other. -/
def fetchBytes : Nat → State → State
  | 0, s => s
  | n + 1, s => fetchBytes n (fetch8 s).2

/-- How a meaning begins, with pc at the opcode: a step of its own calls, then the opcode and the operand bytes
fetched, `n` in all, in increasing address order (R38, R94, R173). The operands themselves are in the instruction,
which the decoder read from the same bytes. -/
def State.fetched (n : Nat) (s : State) : State := fetchBytes n s.beginCalls

/-- The state in which a step finds no descriptor: its one call made, the opcode fetch, and pc still at the opcode (R173,
R176). -/
def State.opcodeRead (s : State) : State := (readByte s.pc s.beginCalls).2

/-- How a meaning ends: `Ok(c)` (R173, R174). -/
def done (c : Nat) (s : State) : Result := .next (s.setCost c)

/-! ## The stack -/

/-- `Push16(v)` (R392): the high byte first, at the higher address. -/
def push16 (v : Word) (s : State) : State :=
  let s1 := s.setSp (s.sp - 1)
  let s2 := writeByte s1.sp (hi8 v) s1
  let s3 := s2.setSp (s2.sp - 1)
  writeByte s3.sp (lo8 v) s3

/-- `Pop16()` (R393). -/
def pop16 (s : State) : Word × State :=
  let lo := readByte s.sp s
  let s1 := lo.2.setSp (lo.2.sp + 1)
  let hi := readByte s1.sp s1
  (wordOf hi.1 lo.1, hi.2.setSp (hi.2.sp + 1))

/-! ## Taking an interrupt and returning from one -/

/-- The fixed vector of source `k` (R500, R501). -/
def interruptVector (k : Nat) : Word := BitVec.ofNat 16 (0x0040 + 8 * k)

/-- The address at which a machine standing at a HALT or STOP goes on: after the HALT (0x76) or the two bytes of STOP
(0x10), and pc otherwise (R500, R503). -/
def resumeAddress (op : Byte) (pc : Word) : Word :=
  if op = 0x76 then pc + 1 else if op = 0x10 then pc + 2 else pc

/-- Interrupt entry (R500) once it is accepted: IME and EI_PENDING cleared, the byte at pc read, the return address
pushed, pc at the vector, 5 cycle-units. -/
def takeInterrupt (k : Nat) (s : State) : State :=
  let s1 := (s.beginCalls.setIme false).setEiPending false
  let op := readByte s1.pc s1
  let s2 := push16 (resumeAddress op.1 s1.pc) op.2
  (s2.setPc (interruptVector k)).setCost 5

/-- The return from an interrupt (R210, R505): the return address popped into pc, IME set at once. -/
def returnFromInterrupt (s : State) : State :=
  let p := pop16 s
  (p.2.setPc p.1).setIme true

end Sys2Proof.Machine
end

