-- ==== Sys2Proof/Machine/Flags.lean ====
section
/-!
DEFINITION. The ALU primitives and every flag computation of the spec. Carries and borrows are computed on unbounded
integers before the result is narrowed (00_scope.md R10).
-/

namespace Sys2Proof.Machine

/-- A result with the four flags an operation computes. -/
structure AluOut where
  res : Byte
  z   : Bool
  n   : Bool
  h   : Bool
  c   : Bool
deriving DecidableEq, Repr

/-- `alu_add(a, b, cin)` (R270). -/
def aluAdd (a b : Byte) (cin : Bool) : AluOut :=
  let s := a.toNat + b.toNat + cin.toNat
  let res : Byte := BitVec.ofNat 8 s
  { res := res, z := decide (res = 0), n := false
    h := decide (lo4 a + lo4 b + cin.toNat > 0xF), c := decide (s > 0xFF) }

/-- `alu_sub(a, b, cin)` (R271): the full-byte borrow. -/
def aluSub (a b : Byte) (cin : Bool) : AluOut :=
  let d : Int := (a.toNat : Int) - (b.toNat : Int) - (cin.toNat : Int)
  let res : Byte := BitVec.ofInt 8 d
  { res := res, z := decide (res = 0), n := true
    h := decide (lo4 a < lo4 b + cin.toNat), c := decide (a.toNat < b.toNat + cin.toNat) }

/-- `alu_and(a, b)` (R272). -/
def aluAnd (a b : Byte) : AluOut :=
  { res := a &&& b, z := decide (a &&& b = 0), n := false, h := true, c := false }

/-- `alu_or(a, b)` (R273). -/
def aluOr (a b : Byte) : AluOut :=
  { res := a ||| b, z := decide (a ||| b = 0), n := false, h := false, c := false }

/-- `alu_xor(a, b)` (R245). -/
def aluXor (a b : Byte) : AluOut :=
  { res := a ^^^ b, z := decide (a ^^^ b = 0), n := false, h := false, c := false }

/-- `alu_cp(a, b)` (R240): the source's carry law, the high nibble of the minuend below that of the subtrahend
(90_conflicts.md C1; log 14). The result is a's value, since compare writes no register. -/
def aluCp (a b : Byte) : AluOut :=
  { res := a, z := decide (a - b = 0), n := true
    h := decide (lo4 a < lo4 b), c := decide (hi4 a < hi4 b) }

/-- The operation of R127 on the accumulator, an operand and the carry. -/
def aluOp : AluOp → Byte → Byte → Bool → AluOut
  | .add, a, b, _ => aluAdd a b false
  | .adc, a, b, cin => aluAdd a b cin
  | .sub, a, b, _ => aluSub a b false
  | .sbc, a, b, cin => aluSub a b cin
  | .and, a, b, _ => aluAnd a b
  | .xor, a, b, _ => aluXor a b
  | .or, a, b, _ => aluOr a b
  | .cp, a, b, _ => aluCp a b

/-- All four flags written. -/
def State.setFlags (z n h c : Bool) (s : State) : State := (((s.setZ z).setN n).setH h).setC c

/-- The three flags INC and DEC write (R292, R294); fC is unchanged. -/
def State.setZNH (z n h : Bool) (s : State) : State := ((s.setZ z).setN n).setH h

/-- The result of INC and its half-carry `lo4(v) = 0xF` (R292). -/
def incByte (v : Byte) : Byte × Bool := (v + 1, decide (lo4 v = 0xF))

/-- The result of DEC and its half-borrow `lo4(v) = 0x0` (R294). -/
def decByte (v : Byte) : Byte × Bool := (v - 1, decide (lo4 v = 0x0))

/-- DAA's result and carry (R296), on the unbounded integer. -/
def daaAdjust (a : Byte) (n h c : Bool) : Byte × Bool :=
  if n then
    let a1 : Int := if c then (a.toNat : Int) - 0x60 else (a.toNat : Int)
    let a2 : Int := if h then a1 - 0x06 else a1
    (BitVec.ofInt 8 a2, c)
  else
    let big := c || decide (a.toNat > 0x99)
    let a1 : Nat := if big then a.toNat + 0x60 else a.toNat
    let a2 : Nat := if h || decide (a1 % 16 > 0x9) then a1 + 0x06 else a1
    (BitVec.ofNat 8 a2, big)

/-- `rlc(v)` (R320): the result and the carry out. -/
def rlc (v : Byte) : Byte × Bool :=
  ((v <<< 1) ||| (if v.getLsbD 7 then 0x01 else 0), v.getLsbD 7)

/-- `rrc(v)` (R320). -/
def rrc (v : Byte) : Byte × Bool :=
  ((v >>> 1) ||| (if v.getLsbD 0 then 0x80 else 0), v.getLsbD 0)

/-- `rl(v, cin)` (R320). -/
def rl (v : Byte) (cin : Bool) : Byte × Bool :=
  ((v <<< 1) ||| (if cin then 0x01 else 0), v.getLsbD 7)

/-- `rr(v, cin)` (R320). -/
def rr (v : Byte) (cin : Bool) : Byte × Bool :=
  ((v >>> 1) ||| (if cin then 0x80 else 0), v.getLsbD 0)

/-- `sla(v)` (R320). -/
def sla (v : Byte) : Byte × Bool := (v <<< 1, v.getLsbD 7)

/-- `sra(v)` (R320): bit 7 kept. -/
def sra (v : Byte) : Byte × Bool := ((v >>> 1) ||| (v &&& 0x80), v.getLsbD 0)

/-- `srl(v)` (R320). -/
def srl (v : Byte) : Byte × Bool := (v >>> 1, v.getLsbD 0)

/-- `swap(v)` (R320): the nibbles exchanged, carry 0. -/
def swap (v : Byte) : Byte × Bool := ((v <<< 4) ||| (v >>> 4), false)

/-- The CB rotate, shift or SWAP of R128 on a byte and the carry. -/
def cbRotOp : CbRot → Byte → Bool → Byte × Bool
  | .rlc, v, _ => rlc v
  | .rrc, v, _ => rrc v
  | .rl, v, cin => rl v cin
  | .rr, v, cin => rr v cin
  | .sla, v, _ => sla v
  | .sra, v, _ => sra v
  | .swap, v, _ => swap v
  | .srl, v, _ => srl v

/-- The accumulator rotate of R321 to R324. -/
def accRotOp : AccRot → Byte → Bool → Byte × Bool
  | .rlca, v, _ => rlc v
  | .rrca, v, _ => rrc v
  | .rla, v, cin => rl v cin
  | .rra, v, cin => rr v cin

/-- The flags of ADD HL,rp (R433): the sum, the carry out of bit 11, the carry out of bit 15. -/
def addHlOut (h v : Word) : Word × Bool × Bool :=
  (BitVec.ofNat 16 (h.toNat + v.toNat), decide (h.toNat % 4096 + v.toNat % 4096 > 0xFFF),
    decide (h.toNat + v.toNat > 0xFFFF))

/-- `sp_plus_e(b)` (R430): the sum, and the half-carry and carry of the unsigned add of `b` to the low byte of sp. -/
def spPlusE (sp : Word) (b : Byte) : Word × Bool × Bool :=
  (sp + sext16 b, decide (lo4 (lo8 sp) + lo4 b > 0xF), decide ((lo8 sp).toNat + b.toNat > 0xFF))

end Sys2Proof.Machine
end

