-- ==== Sys2Proof/Machine/Operands.lean ====
section
/-!
DEFINITION. The operand forms: register pairs as views (10_state.md R32 to R34), `rp` and `rp2` (30_encoding.md R125),
`get8` and `set8` (00_scope.md R14), the ALU operand, the conditions (41_control_flow.md R200).
-/

namespace Sys2Proof.Machine

/-- The register that is the high half of a pair (R32). -/
def Pair.hiReg : Pair → Reg8
  | .bc => .b | .de => .d | .hl => .h

/-- The register that is the low half of a pair (R32). -/
def Pair.loReg : Pair → Reg8
  | .bc => .c | .de => .e | .hl => .l

/-- `reg16[P]` (R32): `hi*256 + lo` of the current halves. -/
def State.pair (s : State) (p : Pair) : Word := wordOf (s.reg (Pair.hiReg p)) (s.reg (Pair.loReg p))

/-- `reg16[P] <- v` (R33). -/
def State.setPair (p : Pair) (v : Word) (s : State) : State :=
  (s.setReg (Pair.hiReg p) (hi8 v)).setReg (Pair.loReg p) (lo8 v)

/-- `HL` (R11). -/
def State.hl (s : State) : Word := s.pair .hl

/-- The F byte (R34): Z, N, H, C in bits 7 to 4, bits 3 to 0 reading 0. -/
def State.fByte (s : State) : Byte :=
  (if s.fZ then 0x80 else 0) ||| (if s.fN then 0x40 else 0) ||| (if s.fH then 0x20 else 0) ||| (if s.fC then 0x10 else 0)

/-- Writing F (R34): the flags from bits 7 to 4, bits 3 to 0 discarded. -/
def State.setF (v : Byte) (s : State) : State :=
  ((((s.setZ (v.getLsbD 7)).setN (v.getLsbD 6)).setH (v.getLsbD 5)).setC (v.getLsbD 4))

/-- The value of `rp` (R125). -/
def State.rp (s : State) : Rp → Word
  | .pair p => s.pair p
  | .sp => s.sp

/-- Writing `rp` (R125, R389). -/
def State.setRp (rp : Rp) (v : Word) (s : State) : State :=
  match rp with
  | .pair p => s.setPair p v
  | .sp => s.setSp v

/-- The value of `rp2` (R125): for AF it is A:F (R34). -/
def State.rp2 (s : State) : Rp2 → Word
  | .pair p => s.pair p
  | .af => wordOf (s.reg .a) s.fByte

/-- Writing `rp2` (R125, R395). -/
def State.setRp2 (rp : Rp2) (v : Word) (s : State) : State :=
  match rp with
  | .pair p => s.setPair p v
  | .af => (s.setReg .a (hi8 v)).setF (lo8 v)

/-- The pair that LD A,(rp) and LD (rp),A address through (R375 to R378). -/
def Ind.pair : Ind → Pair
  | .bc => .bc
  | .de => .de

/-- `get8(k)` (R14): a register, or the byte in memory at HL. -/
def get8 (o : Operand8) (s : State) : Byte × State :=
  match o with
  | .reg r => (s.reg r, s)
  | .atHL => readByte s.hl s

/-- `set8(k, v)` (R14). -/
def set8 (o : Operand8) (v : Byte) (s : State) : State :=
  match o with
  | .reg r => s.setReg r v
  | .atHL => writeByte s.hl v s

/-- The second operand of an ALU operation (R127). -/
def getSrc (src : AluSrc) (s : State) : Byte × State :=
  match src with
  | .opd o => get8 o s
  | .imm n => (n, s)

/-- `cond(cc)` (R200). -/
def State.cond (s : State) : Cond → Bool
  | .nz => !s.fZ
  | .z => s.fZ
  | .nc => !s.fC
  | .c => s.fC

/-- HL after LD (HL+) or LD (HL-) (R385 to R388). -/
def HlStep.next : HlStep → Word → Word
  | .inc, a => a + 1
  | .dec, a => a - 1

/-- The high-page address `0xFF00 + offset` (R87, R129, R381). -/
def highPage (n : Byte) : Word := 0xFF00 + zext16 n

end Sys2Proof.Machine
end

