-- ==== Sys2Proof/Machine/Alu16.lean ====
section
/-!
DEFINITION. 16-bit arithmetic: 46_alu16.md R431 to R435. Each operation starts with
pc at the opcode (`State.fetched`) and ends with the cost of its rule (`done`).
-/

namespace Sys2Proof.Machine

/-! ## Shared operations -/

/-- INC rp (R431). -/
def opInc16 (rp : Rp) (s : State) : Result :=
  let s1 := s.fetched 1
  done 2 (s1.setRp rp (s1.rp rp + 1))

/-- DEC rp (R432). -/
def opDec16 (rp : Rp) (s : State) : Result :=
  let s1 := s.fetched 1
  done 2 (s1.setRp rp (s1.rp rp - 1))

/-- ADD HL,rp (R433): fZ is unchanged. -/
def opAddHl (rp : Rp) (s : State) : Result :=
  let s1 := s.fetched 1
  let out := addHlOut s1.hl (s1.rp rp)
  done 2 ((((s1.setN false).setH out.2.1).setC out.2.2).setPair .hl out.1)

/-- ADD SP,e (R434). -/
def opAddSp (e : Byte) (s : State) : Result :=
  let s1 := s.fetched 2
  let out := spPlusE s1.sp e
  done 4 ((s1.setSp out.1).setFlags false false out.2.1 out.2.2)

/-- LD HL,SP+e (R435): sp is unchanged. -/
def opLdHlSp (e : Byte) (s : State) : Result :=
  let s1 := s.fetched 2
  let out := spPlusE s1.sp e
  done 3 ((s1.setPair .hl out.1).setFlags false false out.2.1 out.2.2)

/-! ## The meanings -/

/-- INC BC (R431). -/
def exec_inc_BC (s : State) : Result := opInc16 (.pair .bc) s

/-- ADD HL,BC (R433). -/
def exec_add_HL_BC (s : State) : Result := opAddHl (.pair .bc) s

/-- DEC BC (R432). -/
def exec_dec_BC (s : State) : Result := opDec16 (.pair .bc) s

/-- INC DE (R431). -/
def exec_inc_DE (s : State) : Result := opInc16 (.pair .de) s

/-- ADD HL,DE (R433). -/
def exec_add_HL_DE (s : State) : Result := opAddHl (.pair .de) s

/-- DEC DE (R432). -/
def exec_dec_DE (s : State) : Result := opDec16 (.pair .de) s

/-- INC HL (R431). -/
def exec_inc_HL (s : State) : Result := opInc16 (.pair .hl) s

/-- ADD HL,HL (R433). -/
def exec_add_HL_HL (s : State) : Result := opAddHl (.pair .hl) s

/-- DEC HL (R432). -/
def exec_dec_HL (s : State) : Result := opDec16 (.pair .hl) s

/-- INC SP (R431). -/
def exec_inc_SP (s : State) : Result := opInc16 .sp s

/-- ADD HL,SP (R433). -/
def exec_add_HL_SP (s : State) : Result := opAddHl .sp s

/-- DEC SP (R432). -/
def exec_dec_SP (s : State) : Result := opDec16 .sp s

/-- ADD SP,e (R434). -/
def exec_add_SP_e (e : Byte) (s : State) : Result := opAddSp e s

/-- LD HL,SP+e (R435). -/
def exec_ld_HL_SPe (e : Byte) (s : State) : Result := opLdHlSp e s

end Sys2Proof.Machine
end

