-- ==== Sys2Proof/Machine/Alu8.lean ====
section
/-!
DEFINITION. Compare, exclusive-or and the other 8-bit arithmetic: 42_compare_xor.md R241 to R248 and 43_alu8.md R274 to R299. Each operation starts with
pc at the opcode (`State.fetched`) and ends with the cost of its rule (`done`).
-/

namespace Sys2Proof.Machine

/-! ## Shared operations -/

/-- The bytes an ALU operation fetches: its opcode, and n for the immediate form (R121). -/
def aluBytes : AluSrc → Nat
  | .opd _ => 1
  | .imm _ => 2

/-- The cost of an ALU operation (R551): 1 on a register, 2 on (HL) or n. -/
def aluCost : AluSrc → Nat
  | .opd (.reg _) => 1
  | .opd .atHL => 2
  | .imm _ => 2

/-- The register an ALU operation writes: A, but CP writes none (R31, R240). -/
def setAcc (op : AluOp) (v : Byte) (s : State) : State :=
  match op with
  | .cp => s
  | .add | .adc | .sub | .sbc | .and | .xor | .or => s.setReg .a v

/-- ADD, ADC, SUB, SBC, AND, XOR, OR and CP on A and an operand (R241 to R243, R246 to R248, R274 to R291). A and fC
are read before they are written. -/
def opAlu (op : AluOp) (src : AluSrc) (s : State) : Result :=
  let s1 := s.fetched (aluBytes src)
  let b := getSrc src s1
  let out := aluOp op (s1.reg .a) b.1 s1.fC
  done (aluCost src) ((setAcc op out.res b.2).setFlags out.z out.n out.h out.c)

/-- The cost of INC and DEC (R292 to R295). -/
def incCost : Operand8 → Nat
  | .reg _ => 1
  | .atHL => 3

/-- INC r and INC (HL) (R292, R293). -/
def opInc8 (o : Operand8) (s : State) : Result :=
  let v := get8 o (s.fetched 1)
  let out := incByte v.1
  done (incCost o) ((set8 o out.1 v.2).setZNH (decide (out.1 = 0)) false out.2)

/-- DEC r and DEC (HL) (R294, R295). -/
def opDec8 (o : Operand8) (s : State) : Result :=
  let v := get8 o (s.fetched 1)
  let out := decByte v.1
  done (incCost o) ((set8 o out.1 v.2).setZNH (decide (out.1 = 0)) true out.2)

/-- DAA (R296): fN is unchanged. -/
def opDaa (s : State) : Result :=
  let s1 := s.fetched 1
  let out := daaAdjust (s1.reg .a) s1.fN s1.fH s1.fC
  done 1 ((((s1.setReg .a out.1).setZ (decide (out.1 = 0))).setH false).setC out.2)

/-- CPL (R297): fZ and fC are unchanged. -/
def opCpl (s : State) : Result :=
  let s1 := s.fetched 1
  done 1 (((s1.setReg .a ((s1.reg .a) ^^^ 0xFF)).setN true).setH true)

/-- SCF (R298): fZ is unchanged. -/
def opScf (s : State) : Result :=
  done 1 ((((s.fetched 1).setN false).setH false).setC true)

/-- CCF (R299): fZ is unchanged. -/
def opCcf (s : State) : Result :=
  let s1 := s.fetched 1
  done 1 (((s1.setN false).setH false).setC (!s1.fC))

/-! ## The meanings -/

/-- INC B (R292). -/
def exec_inc_B (s : State) : Result := opInc8 (.reg .b) s

/-- DEC B (R294). -/
def exec_dec_B (s : State) : Result := opDec8 (.reg .b) s

/-- INC C (R292). -/
def exec_inc_C (s : State) : Result := opInc8 (.reg .c) s

/-- DEC C (R294). -/
def exec_dec_C (s : State) : Result := opDec8 (.reg .c) s

/-- INC D (R292). -/
def exec_inc_D (s : State) : Result := opInc8 (.reg .d) s

/-- DEC D (R294). -/
def exec_dec_D (s : State) : Result := opDec8 (.reg .d) s

/-- INC E (R292). -/
def exec_inc_E (s : State) : Result := opInc8 (.reg .e) s

/-- DEC E (R294). -/
def exec_dec_E (s : State) : Result := opDec8 (.reg .e) s

/-- INC H (R292). -/
def exec_inc_H (s : State) : Result := opInc8 (.reg .h) s

/-- DEC H (R294). -/
def exec_dec_H (s : State) : Result := opDec8 (.reg .h) s

/-- DAA (R296). -/
def exec_daa (s : State) : Result := opDaa s

/-- INC L (R292). -/
def exec_inc_L (s : State) : Result := opInc8 (.reg .l) s

/-- DEC L (R294). -/
def exec_dec_L (s : State) : Result := opDec8 (.reg .l) s

/-- CPL (R297). -/
def exec_cpl (s : State) : Result := opCpl s

/-- INC (HL) (R293). -/
def exec_inc_atHL (s : State) : Result := opInc8 .atHL s

/-- DEC (HL) (R295). -/
def exec_dec_atHL (s : State) : Result := opDec8 .atHL s

/-- SCF (R298). -/
def exec_scf (s : State) : Result := opScf s

/-- INC A (R292). -/
def exec_inc_A (s : State) : Result := opInc8 (.reg .a) s

/-- DEC A (R294). -/
def exec_dec_A (s : State) : Result := opDec8 (.reg .a) s

/-- CCF (R299). -/
def exec_ccf (s : State) : Result := opCcf s

/-- ADD A,B (R274). -/
def exec_add_A_B (s : State) : Result := opAlu .add (.opd (.reg .b)) s

/-- ADD A,C (R274). -/
def exec_add_A_C (s : State) : Result := opAlu .add (.opd (.reg .c)) s

/-- ADD A,D (R274). -/
def exec_add_A_D (s : State) : Result := opAlu .add (.opd (.reg .d)) s

/-- ADD A,E (R274). -/
def exec_add_A_E (s : State) : Result := opAlu .add (.opd (.reg .e)) s

/-- ADD A,H (R274). -/
def exec_add_A_H (s : State) : Result := opAlu .add (.opd (.reg .h)) s

/-- ADD A,L (R274). -/
def exec_add_A_L (s : State) : Result := opAlu .add (.opd (.reg .l)) s

/-- ADD A,(HL) (R275). -/
def exec_add_A_atHL (s : State) : Result := opAlu .add (.opd .atHL) s

/-- ADD A,A (R274). -/
def exec_add_A_A (s : State) : Result := opAlu .add (.opd (.reg .a)) s

/-- ADC A,B (R277). -/
def exec_adc_A_B (s : State) : Result := opAlu .adc (.opd (.reg .b)) s

/-- ADC A,C (R277). -/
def exec_adc_A_C (s : State) : Result := opAlu .adc (.opd (.reg .c)) s

/-- ADC A,D (R277). -/
def exec_adc_A_D (s : State) : Result := opAlu .adc (.opd (.reg .d)) s

/-- ADC A,E (R277). -/
def exec_adc_A_E (s : State) : Result := opAlu .adc (.opd (.reg .e)) s

/-- ADC A,H (R277). -/
def exec_adc_A_H (s : State) : Result := opAlu .adc (.opd (.reg .h)) s

/-- ADC A,L (R277). -/
def exec_adc_A_L (s : State) : Result := opAlu .adc (.opd (.reg .l)) s

/-- ADC A,(HL) (R278). -/
def exec_adc_A_atHL (s : State) : Result := opAlu .adc (.opd .atHL) s

/-- ADC A,A (R277). -/
def exec_adc_A_A (s : State) : Result := opAlu .adc (.opd (.reg .a)) s

/-- SUB B (R280). -/
def exec_sub_B (s : State) : Result := opAlu .sub (.opd (.reg .b)) s

/-- SUB C (R280). -/
def exec_sub_C (s : State) : Result := opAlu .sub (.opd (.reg .c)) s

/-- SUB D (R280). -/
def exec_sub_D (s : State) : Result := opAlu .sub (.opd (.reg .d)) s

/-- SUB E (R280). -/
def exec_sub_E (s : State) : Result := opAlu .sub (.opd (.reg .e)) s

/-- SUB H (R280). -/
def exec_sub_H (s : State) : Result := opAlu .sub (.opd (.reg .h)) s

/-- SUB L (R280). -/
def exec_sub_L (s : State) : Result := opAlu .sub (.opd (.reg .l)) s

/-- SUB (HL) (R281). -/
def exec_sub_atHL (s : State) : Result := opAlu .sub (.opd .atHL) s

/-- SUB A (R280). -/
def exec_sub_A (s : State) : Result := opAlu .sub (.opd (.reg .a)) s

/-- SBC A,B (R283). -/
def exec_sbc_A_B (s : State) : Result := opAlu .sbc (.opd (.reg .b)) s

/-- SBC A,C (R283). -/
def exec_sbc_A_C (s : State) : Result := opAlu .sbc (.opd (.reg .c)) s

/-- SBC A,D (R283). -/
def exec_sbc_A_D (s : State) : Result := opAlu .sbc (.opd (.reg .d)) s

/-- SBC A,E (R283). -/
def exec_sbc_A_E (s : State) : Result := opAlu .sbc (.opd (.reg .e)) s

/-- SBC A,H (R283). -/
def exec_sbc_A_H (s : State) : Result := opAlu .sbc (.opd (.reg .h)) s

/-- SBC A,L (R283). -/
def exec_sbc_A_L (s : State) : Result := opAlu .sbc (.opd (.reg .l)) s

/-- SBC A,(HL) (R284). -/
def exec_sbc_A_atHL (s : State) : Result := opAlu .sbc (.opd .atHL) s

/-- SBC A,A (R283). -/
def exec_sbc_A_A (s : State) : Result := opAlu .sbc (.opd (.reg .a)) s

/-- AND B (R286). -/
def exec_and_B (s : State) : Result := opAlu .and (.opd (.reg .b)) s

/-- AND C (R286). -/
def exec_and_C (s : State) : Result := opAlu .and (.opd (.reg .c)) s

/-- AND D (R286). -/
def exec_and_D (s : State) : Result := opAlu .and (.opd (.reg .d)) s

/-- AND E (R286). -/
def exec_and_E (s : State) : Result := opAlu .and (.opd (.reg .e)) s

/-- AND H (R286). -/
def exec_and_H (s : State) : Result := opAlu .and (.opd (.reg .h)) s

/-- AND L (R286). -/
def exec_and_L (s : State) : Result := opAlu .and (.opd (.reg .l)) s

/-- AND (HL) (R287). -/
def exec_and_atHL (s : State) : Result := opAlu .and (.opd .atHL) s

/-- AND A (R286). -/
def exec_and_A (s : State) : Result := opAlu .and (.opd (.reg .a)) s

/-- XOR B (R246). -/
def exec_xor_B (s : State) : Result := opAlu .xor (.opd (.reg .b)) s

/-- XOR C (R246). -/
def exec_xor_C (s : State) : Result := opAlu .xor (.opd (.reg .c)) s

/-- XOR D (R246). -/
def exec_xor_D (s : State) : Result := opAlu .xor (.opd (.reg .d)) s

/-- XOR E (R246). -/
def exec_xor_E (s : State) : Result := opAlu .xor (.opd (.reg .e)) s

/-- XOR H (R246). -/
def exec_xor_H (s : State) : Result := opAlu .xor (.opd (.reg .h)) s

/-- XOR L (R246). -/
def exec_xor_L (s : State) : Result := opAlu .xor (.opd (.reg .l)) s

/-- XOR (HL) (R247). -/
def exec_xor_atHL (s : State) : Result := opAlu .xor (.opd .atHL) s

/-- XOR A (R246). -/
def exec_xor_A (s : State) : Result := opAlu .xor (.opd (.reg .a)) s

/-- OR B (R289). -/
def exec_or_B (s : State) : Result := opAlu .or (.opd (.reg .b)) s

/-- OR C (R289). -/
def exec_or_C (s : State) : Result := opAlu .or (.opd (.reg .c)) s

/-- OR D (R289). -/
def exec_or_D (s : State) : Result := opAlu .or (.opd (.reg .d)) s

/-- OR E (R289). -/
def exec_or_E (s : State) : Result := opAlu .or (.opd (.reg .e)) s

/-- OR H (R289). -/
def exec_or_H (s : State) : Result := opAlu .or (.opd (.reg .h)) s

/-- OR L (R289). -/
def exec_or_L (s : State) : Result := opAlu .or (.opd (.reg .l)) s

/-- OR (HL) (R290). -/
def exec_or_atHL (s : State) : Result := opAlu .or (.opd .atHL) s

/-- OR A (R289). -/
def exec_or_A (s : State) : Result := opAlu .or (.opd (.reg .a)) s

/-- CP B (R241). -/
def exec_cp_B (s : State) : Result := opAlu .cp (.opd (.reg .b)) s

/-- CP C (R241). -/
def exec_cp_C (s : State) : Result := opAlu .cp (.opd (.reg .c)) s

/-- CP D (R241). -/
def exec_cp_D (s : State) : Result := opAlu .cp (.opd (.reg .d)) s

/-- CP E (R241). -/
def exec_cp_E (s : State) : Result := opAlu .cp (.opd (.reg .e)) s

/-- CP H (R241). -/
def exec_cp_H (s : State) : Result := opAlu .cp (.opd (.reg .h)) s

/-- CP L (R241). -/
def exec_cp_L (s : State) : Result := opAlu .cp (.opd (.reg .l)) s

/-- CP (HL) (R242). -/
def exec_cp_atHL (s : State) : Result := opAlu .cp (.opd .atHL) s

/-- CP A (R241). -/
def exec_cp_A (s : State) : Result := opAlu .cp (.opd (.reg .a)) s

/-- ADD A,n (R276). -/
def exec_add_A_n (n : Byte) (s : State) : Result := opAlu .add (.imm n) s

/-- ADC A,n (R279). -/
def exec_adc_A_n (n : Byte) (s : State) : Result := opAlu .adc (.imm n) s

/-- SUB n (R282). -/
def exec_sub_n (n : Byte) (s : State) : Result := opAlu .sub (.imm n) s

/-- SBC A,n (R285). -/
def exec_sbc_A_n (n : Byte) (s : State) : Result := opAlu .sbc (.imm n) s

/-- AND n (R288). -/
def exec_and_n (n : Byte) (s : State) : Result := opAlu .and (.imm n) s

/-- XOR n (R248). -/
def exec_xor_n (n : Byte) (s : State) : Result := opAlu .xor (.imm n) s

/-- OR n (R291). -/
def exec_or_n (n : Byte) (s : State) : Result := opAlu .or (.imm n) s

/-- CP n (R243). -/
def exec_cp_n (n : Byte) (s : State) : Result := opAlu .cp (.imm n) s

end Sys2Proof.Machine
end

