-- ==== Sys2Proof/Machine/Control.lean ====
section
/-!
DEFINITION. Jumps, branches, calls, returns and restarts: 41_control_flow.md R201 to R211. Each operation starts with
pc at the opcode (`State.fetched`) and ends with the cost of its rule (`done`).
The cost of a conditional branch is that of the condition before the operation, which writes no flag (R174, R175).
-/

namespace Sys2Proof.Machine

/-! ## Shared operations -/

/-- JP nn (R201). -/
def opJp (nn : Word) (s : State) : Result := done 4 ((s.fetched 3).setPc nn)

/-- JP cc,nn (R202): the operand is fetched in both cases. -/
def opJpCc (cc : Cond) (nn : Word) (s : State) : Result :=
  let s1 := s.fetched 3
  if s1.cond cc then done 4 (s1.setPc nn) else done 3 s1

/-- JR e (R203): relative to the address after the offset byte. -/
def opJr (e : Byte) (s : State) : Result :=
  let s1 := s.fetched 2
  done 3 (s1.setPc (s1.pc + sext16 e))

/-- JR cc,e (R204). -/
def opJrCc (cc : Cond) (e : Byte) (s : State) : Result :=
  let s1 := s.fetched 2
  if s1.cond cc then done 3 (s1.setPc (s1.pc + sext16 e)) else done 2 s1

/-- JP HL (R205). -/
def opJpHl (s : State) : Result :=
  let s1 := s.fetched 1
  done 1 (s1.setPc s1.hl)

/-- CALL nn (R206): the return address is that of the next instruction. -/
def opCall (nn : Word) (s : State) : Result :=
  let s1 := s.fetched 3
  done 6 ((push16 s1.pc s1).setPc nn)

/-- CALL cc,nn (R207). -/
def opCallCc (cc : Cond) (nn : Word) (s : State) : Result :=
  let s1 := s.fetched 3
  if s1.cond cc then done 6 ((push16 s1.pc s1).setPc nn) else done 3 s1

/-- RET (R208). -/
def opRet (s : State) : Result :=
  let v := pop16 (s.fetched 1)
  done 4 (v.2.setPc v.1)

/-- RET cc (R209). -/
def opRetCc (cc : Cond) (s : State) : Result :=
  let s1 := s.fetched 1
  if s1.cond cc then
    let v := pop16 s1
    done 5 (v.2.setPc v.1)
  else done 2 s1

/-- RETI (R210, R505). -/
def opReti (s : State) : Result := done 4 (returnFromInterrupt (s.fetched 1))

/-- The restart target `t = y * 8` (R129). -/
def rstTarget (y : Fin 8) : Word := BitVec.ofNat 16 (8 * y.val)

/-- RST t (R211). -/
def opRst (y : Fin 8) (s : State) : Result :=
  let s1 := s.fetched 1
  done 4 ((push16 s1.pc s1).setPc (rstTarget y))

/-! ## The meanings -/

/-- JR e (R203). -/
def exec_jr_e (e : Byte) (s : State) : Result := opJr e s

/-- JR NZ,e (R204). -/
def exec_jr_NZ_e (e : Byte) (s : State) : Result := opJrCc .nz e s

/-- JR Z,e (R204). -/
def exec_jr_Z_e (e : Byte) (s : State) : Result := opJrCc .z e s

/-- JR NC,e (R204). -/
def exec_jr_NC_e (e : Byte) (s : State) : Result := opJrCc .nc e s

/-- JR C,e (R204). -/
def exec_jr_C_e (e : Byte) (s : State) : Result := opJrCc .c e s

/-- RET NZ (R209). -/
def exec_ret_NZ (s : State) : Result := opRetCc .nz s

/-- JP NZ,nn (R202). -/
def exec_jp_NZ_nn (nn : Word) (s : State) : Result := opJpCc .nz nn s

/-- JP nn (R201). -/
def exec_jp_nn (nn : Word) (s : State) : Result := opJp nn s

/-- CALL NZ,nn (R207). -/
def exec_call_NZ_nn (nn : Word) (s : State) : Result := opCallCc .nz nn s

/-- RST $00 (R211). -/
def exec_rst_00 (s : State) : Result := opRst 0 s

/-- RET Z (R209). -/
def exec_ret_Z (s : State) : Result := opRetCc .z s

/-- RET (R208). -/
def exec_ret (s : State) : Result := opRet s

/-- JP Z,nn (R202). -/
def exec_jp_Z_nn (nn : Word) (s : State) : Result := opJpCc .z nn s

/-- CALL Z,nn (R207). -/
def exec_call_Z_nn (nn : Word) (s : State) : Result := opCallCc .z nn s

/-- CALL nn (R206). -/
def exec_call_nn (nn : Word) (s : State) : Result := opCall nn s

/-- RST $08 (R211). -/
def exec_rst_08 (s : State) : Result := opRst 1 s

/-- RET NC (R209). -/
def exec_ret_NC (s : State) : Result := opRetCc .nc s

/-- JP NC,nn (R202). -/
def exec_jp_NC_nn (nn : Word) (s : State) : Result := opJpCc .nc nn s

/-- CALL NC,nn (R207). -/
def exec_call_NC_nn (nn : Word) (s : State) : Result := opCallCc .nc nn s

/-- RST $10 (R211). -/
def exec_rst_10 (s : State) : Result := opRst 2 s

/-- RET C (R209). -/
def exec_ret_C (s : State) : Result := opRetCc .c s

/-- RETI (R210). -/
def exec_reti (s : State) : Result := opReti s

/-- JP C,nn (R202). -/
def exec_jp_C_nn (nn : Word) (s : State) : Result := opJpCc .c nn s

/-- CALL C,nn (R207). -/
def exec_call_C_nn (nn : Word) (s : State) : Result := opCallCc .c nn s

/-- RST $18 (R211). -/
def exec_rst_18 (s : State) : Result := opRst 3 s

/-- RST $20 (R211). -/
def exec_rst_20 (s : State) : Result := opRst 4 s

/-- JP HL (R205). -/
def exec_jp_HL (s : State) : Result := opJpHl s

/-- RST $28 (R211). -/
def exec_rst_28 (s : State) : Result := opRst 5 s

/-- RST $30 (R211). -/
def exec_rst_30 (s : State) : Result := opRst 6 s

/-- RST $38 (R211). -/
def exec_rst_38 (s : State) : Result := opRst 7 s

end Sys2Proof.Machine
end

