-- ==== Sys2Proof/Machine/Load16.lean ====
section
/-!
DEFINITION. The 16-bit loads, PUSH and POP of 45_load_store.md, R389 to R395. Each operation starts with
pc at the opcode (`State.fetched`) and ends with the cost of its rule (`done`).
-/

namespace Sys2Proof.Machine

/-! ## Shared operations -/

/-- LD rp,nn (R389). -/
def opLdRpNn (rp : Rp) (nn : Word) (s : State) : Result :=
  done 3 ((s.fetched 3).setRp rp nn)

/-- LD SP,HL (R390). -/
def opLdSpHl (s : State) : Result :=
  let s1 := s.fetched 1
  done 2 (s1.setSp s1.hl)

/-- LD (nn),SP (R391). -/
def opLdNnSp (nn : Word) (s : State) : Result :=
  let s1 := s.fetched 3
  done 5 (writeWord nn s1.sp s1)

/-- PUSH rp2 (R394). -/
def opPush (rp : Rp2) (s : State) : Result :=
  let s1 := s.fetched 1
  done 4 (push16 (s1.rp2 rp) s1)

/-- POP rp2 (R395). -/
def opPop (rp : Rp2) (s : State) : Result :=
  let v := pop16 (s.fetched 1)
  done 3 (v.2.setRp2 rp v.1)

/-! ## The meanings -/

/-- LD BC,nn (R389). -/
def exec_ld_BC_nn (nn : Word) (s : State) : Result := opLdRpNn (.pair .bc) nn s

/-- LD (nn),SP (R391). -/
def exec_ld_atnn_SP (nn : Word) (s : State) : Result := opLdNnSp nn s

/-- LD DE,nn (R389). -/
def exec_ld_DE_nn (nn : Word) (s : State) : Result := opLdRpNn (.pair .de) nn s

/-- LD HL,nn (R389). -/
def exec_ld_HL_nn (nn : Word) (s : State) : Result := opLdRpNn (.pair .hl) nn s

/-- LD SP,nn (R389). -/
def exec_ld_SP_nn (nn : Word) (s : State) : Result := opLdRpNn .sp nn s

/-- POP BC (R395). -/
def exec_pop_BC (s : State) : Result := opPop (.pair .bc) s

/-- PUSH BC (R394). -/
def exec_push_BC (s : State) : Result := opPush (.pair .bc) s

/-- POP DE (R395). -/
def exec_pop_DE (s : State) : Result := opPop (.pair .de) s

/-- PUSH DE (R394). -/
def exec_push_DE (s : State) : Result := opPush (.pair .de) s

/-- POP HL (R395). -/
def exec_pop_HL (s : State) : Result := opPop (.pair .hl) s

/-- PUSH HL (R394). -/
def exec_push_HL (s : State) : Result := opPush (.pair .hl) s

/-- POP AF (R395). -/
def exec_pop_AF (s : State) : Result := opPop .af s

/-- PUSH AF (R394). -/
def exec_push_AF (s : State) : Result := opPush .af s

/-- LD SP,HL (R390). -/
def exec_ld_SP_HL (s : State) : Result := opLdSpHl s

end Sys2Proof.Machine
end

