-- ==== Sys2Proof/Machine/Load8.lean ====
section
/-!
DEFINITION. The 8-bit loads and stores of 45_load_store.md, R370 to R388. Each operation starts with
pc at the opcode (`State.fetched`) and ends with the cost of its rule (`done`).
-/

namespace Sys2Proof.Machine

/-! ## Shared operations -/

/-- LD r,r' (R370). -/
def opLdRegReg (dst src : Reg8) (s : State) : Result :=
  let s1 := s.fetched 1
  done 1 (s1.setReg dst (s1.reg src))

/-- LD r,(HL) (R371). -/
def opLdRegHl (dst : Reg8) (s : State) : Result :=
  let s1 := s.fetched 1
  let v := readByte s1.hl s1
  done 2 (v.2.setReg dst v.1)

/-- LD (HL),r (R372). -/
def opLdHlReg (src : Reg8) (s : State) : Result :=
  let s1 := s.fetched 1
  done 2 (writeByte s1.hl (s1.reg src) s1)

/-- LD r,n (R373). -/
def opLdRegN (dst : Reg8) (n : Byte) (s : State) : Result :=
  let s1 := s.fetched 2
  done 2 (s1.setReg dst n)

/-- LD (HL),n (R374). -/
def opLdHlN (n : Byte) (s : State) : Result :=
  let s1 := s.fetched 2
  done 3 (writeByte s1.hl n s1)

/-- LD A,(BC) and LD A,(DE) (R375, R376). -/
def opLdAInd (p : Ind) (s : State) : Result :=
  let s1 := s.fetched 1
  let v := readByte (s1.pair (Ind.pair p)) s1
  done 2 (v.2.setReg .a v.1)

/-- LD (BC),A and LD (DE),A (R377, R378). -/
def opLdIndA (p : Ind) (s : State) : Result :=
  let s1 := s.fetched 1
  done 2 (writeByte (s1.pair (Ind.pair p)) (s1.reg .a) s1)

/-- LD A,(nn) (R379). -/
def opLdANn (nn : Word) (s : State) : Result :=
  let v := readByte nn (s.fetched 3)
  done 4 (v.2.setReg .a v.1)

/-- LD (nn),A (R380). -/
def opLdNnA (nn : Word) (s : State) : Result :=
  let s1 := s.fetched 3
  done 4 (writeByte nn (s1.reg .a) s1)

/-- LDH (n),A (R381). -/
def opLdhNA (n : Byte) (s : State) : Result :=
  let s1 := s.fetched 2
  done 3 (writeByte (highPage n) (s1.reg .a) s1)

/-- LDH A,(n) (R382). -/
def opLdhAN (n : Byte) (s : State) : Result :=
  let v := readByte (highPage n) (s.fetched 2)
  done 3 (v.2.setReg .a v.1)

/-- LD (C),A (R383): the register C, not the flag. -/
def opLdCA (s : State) : Result :=
  let s1 := s.fetched 1
  done 2 (writeByte (highPage (s1.reg .c)) (s1.reg .a) s1)

/-- LD A,(C) (R384). -/
def opLdAC (s : State) : Result :=
  let s1 := s.fetched 1
  let v := readByte (highPage (s1.reg .c)) s1
  done 2 (v.2.setReg .a v.1)

/-- LD (HL+),A and LD (HL-),A (R385, R387). -/
def opLdHlStepA (k : HlStep) (s : State) : Result :=
  let s1 := s.fetched 1
  let a := s1.hl
  done 2 ((writeByte a (s1.reg .a) s1).setPair .hl (HlStep.next k a))

/-- LD A,(HL+) and LD A,(HL-) (R386, R388). -/
def opLdAHlStep (k : HlStep) (s : State) : Result :=
  let s1 := s.fetched 1
  let a := s1.hl
  let v := readByte a s1
  done 2 ((v.2.setReg .a v.1).setPair .hl (HlStep.next k a))

/-! ## The meanings -/

/-- LD (BC),A (R377). -/
def exec_ld_atBC_A (s : State) : Result := opLdIndA .bc s

/-- LD B,n (R373). -/
def exec_ld_B_n (n : Byte) (s : State) : Result := opLdRegN .b n s

/-- LD A,(BC) (R375). -/
def exec_ld_A_atBC (s : State) : Result := opLdAInd .bc s

/-- LD C,n (R373). -/
def exec_ld_C_n (n : Byte) (s : State) : Result := opLdRegN .c n s

/-- LD (DE),A (R378). -/
def exec_ld_atDE_A (s : State) : Result := opLdIndA .de s

/-- LD D,n (R373). -/
def exec_ld_D_n (n : Byte) (s : State) : Result := opLdRegN .d n s

/-- LD A,(DE) (R376). -/
def exec_ld_A_atDE (s : State) : Result := opLdAInd .de s

/-- LD E,n (R373). -/
def exec_ld_E_n (n : Byte) (s : State) : Result := opLdRegN .e n s

/-- LD (HL+),A (R385). -/
def exec_ld_atHLinc_A (s : State) : Result := opLdHlStepA .inc s

/-- LD H,n (R373). -/
def exec_ld_H_n (n : Byte) (s : State) : Result := opLdRegN .h n s

/-- LD A,(HL+) (R386). -/
def exec_ld_A_atHLinc (s : State) : Result := opLdAHlStep .inc s

/-- LD L,n (R373). -/
def exec_ld_L_n (n : Byte) (s : State) : Result := opLdRegN .l n s

/-- LD (HL-),A (R387). -/
def exec_ld_atHLdec_A (s : State) : Result := opLdHlStepA .dec s

/-- LD (HL),n (R374). -/
def exec_ld_atHL_n (n : Byte) (s : State) : Result := opLdHlN n s

/-- LD A,(HL-) (R388). -/
def exec_ld_A_atHLdec (s : State) : Result := opLdAHlStep .dec s

/-- LD A,n (R373). -/
def exec_ld_A_n (n : Byte) (s : State) : Result := opLdRegN .a n s

/-- LD B,B (R370). -/
def exec_ld_B_B (s : State) : Result := opLdRegReg .b .b s

/-- LD B,C (R370). -/
def exec_ld_B_C (s : State) : Result := opLdRegReg .b .c s

/-- LD B,D (R370). -/
def exec_ld_B_D (s : State) : Result := opLdRegReg .b .d s

/-- LD B,E (R370). -/
def exec_ld_B_E (s : State) : Result := opLdRegReg .b .e s

/-- LD B,H (R370). -/
def exec_ld_B_H (s : State) : Result := opLdRegReg .b .h s

/-- LD B,L (R370). -/
def exec_ld_B_L (s : State) : Result := opLdRegReg .b .l s

/-- LD B,(HL) (R371). -/
def exec_ld_B_atHL (s : State) : Result := opLdRegHl .b s

/-- LD B,A (R370). -/
def exec_ld_B_A (s : State) : Result := opLdRegReg .b .a s

/-- LD C,B (R370). -/
def exec_ld_C_B (s : State) : Result := opLdRegReg .c .b s

/-- LD C,C (R370). -/
def exec_ld_C_C (s : State) : Result := opLdRegReg .c .c s

/-- LD C,D (R370). -/
def exec_ld_C_D (s : State) : Result := opLdRegReg .c .d s

/-- LD C,E (R370). -/
def exec_ld_C_E (s : State) : Result := opLdRegReg .c .e s

/-- LD C,H (R370). -/
def exec_ld_C_H (s : State) : Result := opLdRegReg .c .h s

/-- LD C,L (R370). -/
def exec_ld_C_L (s : State) : Result := opLdRegReg .c .l s

/-- LD C,(HL) (R371). -/
def exec_ld_C_atHL (s : State) : Result := opLdRegHl .c s

/-- LD C,A (R370). -/
def exec_ld_C_A (s : State) : Result := opLdRegReg .c .a s

/-- LD D,B (R370). -/
def exec_ld_D_B (s : State) : Result := opLdRegReg .d .b s

/-- LD D,C (R370). -/
def exec_ld_D_C (s : State) : Result := opLdRegReg .d .c s

/-- LD D,D (R370). -/
def exec_ld_D_D (s : State) : Result := opLdRegReg .d .d s

/-- LD D,E (R370). -/
def exec_ld_D_E (s : State) : Result := opLdRegReg .d .e s

/-- LD D,H (R370). -/
def exec_ld_D_H (s : State) : Result := opLdRegReg .d .h s

/-- LD D,L (R370). -/
def exec_ld_D_L (s : State) : Result := opLdRegReg .d .l s

/-- LD D,(HL) (R371). -/
def exec_ld_D_atHL (s : State) : Result := opLdRegHl .d s

/-- LD D,A (R370). -/
def exec_ld_D_A (s : State) : Result := opLdRegReg .d .a s

/-- LD E,B (R370). -/
def exec_ld_E_B (s : State) : Result := opLdRegReg .e .b s

/-- LD E,C (R370). -/
def exec_ld_E_C (s : State) : Result := opLdRegReg .e .c s

/-- LD E,D (R370). -/
def exec_ld_E_D (s : State) : Result := opLdRegReg .e .d s

/-- LD E,E (R370). -/
def exec_ld_E_E (s : State) : Result := opLdRegReg .e .e s

/-- LD E,H (R370). -/
def exec_ld_E_H (s : State) : Result := opLdRegReg .e .h s

/-- LD E,L (R370). -/
def exec_ld_E_L (s : State) : Result := opLdRegReg .e .l s

/-- LD E,(HL) (R371). -/
def exec_ld_E_atHL (s : State) : Result := opLdRegHl .e s

/-- LD E,A (R370). -/
def exec_ld_E_A (s : State) : Result := opLdRegReg .e .a s

/-- LD H,B (R370). -/
def exec_ld_H_B (s : State) : Result := opLdRegReg .h .b s

/-- LD H,C (R370). -/
def exec_ld_H_C (s : State) : Result := opLdRegReg .h .c s

/-- LD H,D (R370). -/
def exec_ld_H_D (s : State) : Result := opLdRegReg .h .d s

/-- LD H,E (R370). -/
def exec_ld_H_E (s : State) : Result := opLdRegReg .h .e s

/-- LD H,H (R370). -/
def exec_ld_H_H (s : State) : Result := opLdRegReg .h .h s

/-- LD H,L (R370). -/
def exec_ld_H_L (s : State) : Result := opLdRegReg .h .l s

/-- LD H,(HL) (R371). -/
def exec_ld_H_atHL (s : State) : Result := opLdRegHl .h s

/-- LD H,A (R370). -/
def exec_ld_H_A (s : State) : Result := opLdRegReg .h .a s

/-- LD L,B (R370). -/
def exec_ld_L_B (s : State) : Result := opLdRegReg .l .b s

/-- LD L,C (R370). -/
def exec_ld_L_C (s : State) : Result := opLdRegReg .l .c s

/-- LD L,D (R370). -/
def exec_ld_L_D (s : State) : Result := opLdRegReg .l .d s

/-- LD L,E (R370). -/
def exec_ld_L_E (s : State) : Result := opLdRegReg .l .e s

/-- LD L,H (R370). -/
def exec_ld_L_H (s : State) : Result := opLdRegReg .l .h s

/-- LD L,L (R370). -/
def exec_ld_L_L (s : State) : Result := opLdRegReg .l .l s

/-- LD L,(HL) (R371). -/
def exec_ld_L_atHL (s : State) : Result := opLdRegHl .l s

/-- LD L,A (R370). -/
def exec_ld_L_A (s : State) : Result := opLdRegReg .l .a s

/-- LD (HL),B (R372). -/
def exec_ld_atHL_B (s : State) : Result := opLdHlReg .b s

/-- LD (HL),C (R372). -/
def exec_ld_atHL_C (s : State) : Result := opLdHlReg .c s

/-- LD (HL),D (R372). -/
def exec_ld_atHL_D (s : State) : Result := opLdHlReg .d s

/-- LD (HL),E (R372). -/
def exec_ld_atHL_E (s : State) : Result := opLdHlReg .e s

/-- LD (HL),H (R372). -/
def exec_ld_atHL_H (s : State) : Result := opLdHlReg .h s

/-- LD (HL),L (R372). -/
def exec_ld_atHL_L (s : State) : Result := opLdHlReg .l s

/-- LD (HL),A (R372). -/
def exec_ld_atHL_A (s : State) : Result := opLdHlReg .a s

/-- LD A,B (R370). -/
def exec_ld_A_B (s : State) : Result := opLdRegReg .a .b s

/-- LD A,C (R370). -/
def exec_ld_A_C (s : State) : Result := opLdRegReg .a .c s

/-- LD A,D (R370). -/
def exec_ld_A_D (s : State) : Result := opLdRegReg .a .d s

/-- LD A,E (R370). -/
def exec_ld_A_E (s : State) : Result := opLdRegReg .a .e s

/-- LD A,H (R370). -/
def exec_ld_A_H (s : State) : Result := opLdRegReg .a .h s

/-- LD A,L (R370). -/
def exec_ld_A_L (s : State) : Result := opLdRegReg .a .l s

/-- LD A,(HL) (R371). -/
def exec_ld_A_atHL (s : State) : Result := opLdRegHl .a s

/-- LD A,A (R370). -/
def exec_ld_A_A (s : State) : Result := opLdRegReg .a .a s

/-- LDH (n),A (R381). -/
def exec_ldh_atn_A (n : Byte) (s : State) : Result := opLdhNA n s

/-- LD (C),A (R383). -/
def exec_ld_atC_A (s : State) : Result := opLdCA s

/-- LD (nn),A (R380). -/
def exec_ld_atnn_A (nn : Word) (s : State) : Result := opLdNnA nn s

/-- LDH A,(n) (R382). -/
def exec_ldh_A_atn (n : Byte) (s : State) : Result := opLdhAN n s

/-- LD A,(C) (R384). -/
def exec_ld_A_atC (s : State) : Result := opLdAC s

/-- LD A,(nn) (R379). -/
def exec_ld_A_atnn (nn : Word) (s : State) : Result := opLdANn nn s

end Sys2Proof.Machine
end

