-- ==== Sys2Proof/Machine/Rotate.lean ====
section
/-!
DEFINITION. The accumulator rotates and the CB rotates, shifts and SWAP: 44_rotate_shift_bit.md R321 to R332. Each operation starts with
pc at the opcode (`State.fetched`) and ends with the cost of its rule (`done`).
-/

namespace Sys2Proof.Machine

/-! ## Shared operations -/

/-- RLCA, RRCA, RLA, RRA (R321 to R324): fZ is always cleared. -/
def opAccRot (k : AccRot) (s : State) : Result :=
  let s1 := s.fetched 1
  let out := accRotOp k (s1.reg .a) s1.fC
  done 1 ((s1.setReg .a out.1).setFlags false false false out.2)

/-- The cost of a CB operation that writes its operand, the prefix counted (R177, R325, R334). -/
def cbCost : Operand8 → Nat
  | .reg _ => 2
  | .atHL => 4

/-- The template of R325 to R332: read the operand, write the result, set the flags. -/
def opCbRot (k : CbRot) (o : Operand8) (s : State) : Result :=
  let v := get8 o (s.fetched 2)
  let out := cbRotOp k v.1 v.2.fC
  done (cbCost o) ((set8 o out.1 v.2).setFlags (decide (out.1 = 0)) false false out.2)

/-! ## The meanings -/

/-- RLCA (R321). -/
def exec_rlca (s : State) : Result := opAccRot .rlca s

/-- RRCA (R322). -/
def exec_rrca (s : State) : Result := opAccRot .rrca s

/-- RLA (R323). -/
def exec_rla (s : State) : Result := opAccRot .rla s

/-- RRA (R324). -/
def exec_rra (s : State) : Result := opAccRot .rra s

/-- RLC B (R325). -/
def exec_rlc_B (s : State) : Result := opCbRot .rlc (.reg .b) s

/-- RLC C (R325). -/
def exec_rlc_C (s : State) : Result := opCbRot .rlc (.reg .c) s

/-- RLC D (R325). -/
def exec_rlc_D (s : State) : Result := opCbRot .rlc (.reg .d) s

/-- RLC E (R325). -/
def exec_rlc_E (s : State) : Result := opCbRot .rlc (.reg .e) s

/-- RLC H (R325). -/
def exec_rlc_H (s : State) : Result := opCbRot .rlc (.reg .h) s

/-- RLC L (R325). -/
def exec_rlc_L (s : State) : Result := opCbRot .rlc (.reg .l) s

/-- RLC (HL) (R325). -/
def exec_rlc_atHL (s : State) : Result := opCbRot .rlc .atHL s

/-- RLC A (R325). -/
def exec_rlc_A (s : State) : Result := opCbRot .rlc (.reg .a) s

/-- RRC B (R326). -/
def exec_rrc_B (s : State) : Result := opCbRot .rrc (.reg .b) s

/-- RRC C (R326). -/
def exec_rrc_C (s : State) : Result := opCbRot .rrc (.reg .c) s

/-- RRC D (R326). -/
def exec_rrc_D (s : State) : Result := opCbRot .rrc (.reg .d) s

/-- RRC E (R326). -/
def exec_rrc_E (s : State) : Result := opCbRot .rrc (.reg .e) s

/-- RRC H (R326). -/
def exec_rrc_H (s : State) : Result := opCbRot .rrc (.reg .h) s

/-- RRC L (R326). -/
def exec_rrc_L (s : State) : Result := opCbRot .rrc (.reg .l) s

/-- RRC (HL) (R326). -/
def exec_rrc_atHL (s : State) : Result := opCbRot .rrc .atHL s

/-- RRC A (R326). -/
def exec_rrc_A (s : State) : Result := opCbRot .rrc (.reg .a) s

/-- RL B (R327). -/
def exec_rl_B (s : State) : Result := opCbRot .rl (.reg .b) s

/-- RL C (R327). -/
def exec_rl_C (s : State) : Result := opCbRot .rl (.reg .c) s

/-- RL D (R327). -/
def exec_rl_D (s : State) : Result := opCbRot .rl (.reg .d) s

/-- RL E (R327). -/
def exec_rl_E (s : State) : Result := opCbRot .rl (.reg .e) s

/-- RL H (R327). -/
def exec_rl_H (s : State) : Result := opCbRot .rl (.reg .h) s

/-- RL L (R327). -/
def exec_rl_L (s : State) : Result := opCbRot .rl (.reg .l) s

/-- RL (HL) (R327). -/
def exec_rl_atHL (s : State) : Result := opCbRot .rl .atHL s

/-- RL A (R327). -/
def exec_rl_A (s : State) : Result := opCbRot .rl (.reg .a) s

/-- RR B (R328). -/
def exec_rr_B (s : State) : Result := opCbRot .rr (.reg .b) s

/-- RR C (R328). -/
def exec_rr_C (s : State) : Result := opCbRot .rr (.reg .c) s

/-- RR D (R328). -/
def exec_rr_D (s : State) : Result := opCbRot .rr (.reg .d) s

/-- RR E (R328). -/
def exec_rr_E (s : State) : Result := opCbRot .rr (.reg .e) s

/-- RR H (R328). -/
def exec_rr_H (s : State) : Result := opCbRot .rr (.reg .h) s

/-- RR L (R328). -/
def exec_rr_L (s : State) : Result := opCbRot .rr (.reg .l) s

/-- RR (HL) (R328). -/
def exec_rr_atHL (s : State) : Result := opCbRot .rr .atHL s

/-- RR A (R328). -/
def exec_rr_A (s : State) : Result := opCbRot .rr (.reg .a) s

/-- SLA B (R329). -/
def exec_sla_B (s : State) : Result := opCbRot .sla (.reg .b) s

/-- SLA C (R329). -/
def exec_sla_C (s : State) : Result := opCbRot .sla (.reg .c) s

/-- SLA D (R329). -/
def exec_sla_D (s : State) : Result := opCbRot .sla (.reg .d) s

/-- SLA E (R329). -/
def exec_sla_E (s : State) : Result := opCbRot .sla (.reg .e) s

/-- SLA H (R329). -/
def exec_sla_H (s : State) : Result := opCbRot .sla (.reg .h) s

/-- SLA L (R329). -/
def exec_sla_L (s : State) : Result := opCbRot .sla (.reg .l) s

/-- SLA (HL) (R329). -/
def exec_sla_atHL (s : State) : Result := opCbRot .sla .atHL s

/-- SLA A (R329). -/
def exec_sla_A (s : State) : Result := opCbRot .sla (.reg .a) s

/-- SRA B (R330). -/
def exec_sra_B (s : State) : Result := opCbRot .sra (.reg .b) s

/-- SRA C (R330). -/
def exec_sra_C (s : State) : Result := opCbRot .sra (.reg .c) s

/-- SRA D (R330). -/
def exec_sra_D (s : State) : Result := opCbRot .sra (.reg .d) s

/-- SRA E (R330). -/
def exec_sra_E (s : State) : Result := opCbRot .sra (.reg .e) s

/-- SRA H (R330). -/
def exec_sra_H (s : State) : Result := opCbRot .sra (.reg .h) s

/-- SRA L (R330). -/
def exec_sra_L (s : State) : Result := opCbRot .sra (.reg .l) s

/-- SRA (HL) (R330). -/
def exec_sra_atHL (s : State) : Result := opCbRot .sra .atHL s

/-- SRA A (R330). -/
def exec_sra_A (s : State) : Result := opCbRot .sra (.reg .a) s

/-- SWAP B (R331). -/
def exec_swap_B (s : State) : Result := opCbRot .swap (.reg .b) s

/-- SWAP C (R331). -/
def exec_swap_C (s : State) : Result := opCbRot .swap (.reg .c) s

/-- SWAP D (R331). -/
def exec_swap_D (s : State) : Result := opCbRot .swap (.reg .d) s

/-- SWAP E (R331). -/
def exec_swap_E (s : State) : Result := opCbRot .swap (.reg .e) s

/-- SWAP H (R331). -/
def exec_swap_H (s : State) : Result := opCbRot .swap (.reg .h) s

/-- SWAP L (R331). -/
def exec_swap_L (s : State) : Result := opCbRot .swap (.reg .l) s

/-- SWAP (HL) (R331). -/
def exec_swap_atHL (s : State) : Result := opCbRot .swap .atHL s

/-- SWAP A (R331). -/
def exec_swap_A (s : State) : Result := opCbRot .swap (.reg .a) s

/-- SRL B (R332). -/
def exec_srl_B (s : State) : Result := opCbRot .srl (.reg .b) s

/-- SRL C (R332). -/
def exec_srl_C (s : State) : Result := opCbRot .srl (.reg .c) s

/-- SRL D (R332). -/
def exec_srl_D (s : State) : Result := opCbRot .srl (.reg .d) s

/-- SRL E (R332). -/
def exec_srl_E (s : State) : Result := opCbRot .srl (.reg .e) s

/-- SRL H (R332). -/
def exec_srl_H (s : State) : Result := opCbRot .srl (.reg .h) s

/-- SRL L (R332). -/
def exec_srl_L (s : State) : Result := opCbRot .srl (.reg .l) s

/-- SRL (HL) (R332). -/
def exec_srl_atHL (s : State) : Result := opCbRot .srl .atHL s

/-- SRL A (R332). -/
def exec_srl_A (s : State) : Result := opCbRot .srl (.reg .a) s

end Sys2Proof.Machine
end

