-- ==== Sys2Proof/Machine/BitOps.lean ====
section
/-!
DEFINITION. The CB bit operations: 44_rotate_shift_bit.md R333 to R335. Each operation starts with
pc at the opcode (`State.fetched`) and ends with the cost of its rule (`done`).
-/

namespace Sys2Proof.Machine

/-! ## Shared operations -/

/-- The cost of BIT (R177, R333). -/
def bitCost : Operand8 → Nat
  | .reg _ => 2
  | .atHL => 3

/-- BIT b,r and BIT b,(HL) (R333): fC is unchanged and nothing is written. -/
def opBit (b : Fin 8) (o : Operand8) (s : State) : Result :=
  let v := get8 o (s.fetched 2)
  done (bitCost o) (v.2.setZNH (!(v.1.getLsbD b.val)) false true)

/-- `v AND (0xFF XOR (1 << b))` (R334). -/
def clearBit (b : Fin 8) (v : Byte) : Byte := v &&& (0xFF ^^^ ((1 : Byte) <<< b.val))

/-- `v OR (1 << b)` (R335). -/
def raiseBit (b : Fin 8) (v : Byte) : Byte := v ||| ((1 : Byte) <<< b.val)

/-- RES b,r and RES b,(HL) (R334): the operand is written even when the bit was already 0. -/
def opRes (b : Fin 8) (o : Operand8) (s : State) : Result :=
  let v := get8 o (s.fetched 2)
  done (cbCost o) (set8 o (clearBit b v.1) v.2)

/-- SET b,r and SET b,(HL) (R335). -/
def opSet (b : Fin 8) (o : Operand8) (s : State) : Result :=
  let v := get8 o (s.fetched 2)
  done (cbCost o) (set8 o (raiseBit b v.1) v.2)

/-! ## The meanings -/

/-- BIT 0,B (R333). -/
def exec_bit_0_B (s : State) : Result := opBit 0 (.reg .b) s

/-- BIT 0,C (R333). -/
def exec_bit_0_C (s : State) : Result := opBit 0 (.reg .c) s

/-- BIT 0,D (R333). -/
def exec_bit_0_D (s : State) : Result := opBit 0 (.reg .d) s

/-- BIT 0,E (R333). -/
def exec_bit_0_E (s : State) : Result := opBit 0 (.reg .e) s

/-- BIT 0,H (R333). -/
def exec_bit_0_H (s : State) : Result := opBit 0 (.reg .h) s

/-- BIT 0,L (R333). -/
def exec_bit_0_L (s : State) : Result := opBit 0 (.reg .l) s

/-- BIT 0,(HL) (R333). -/
def exec_bit_0_atHL (s : State) : Result := opBit 0 .atHL s

/-- BIT 0,A (R333). -/
def exec_bit_0_A (s : State) : Result := opBit 0 (.reg .a) s

/-- BIT 1,B (R333). -/
def exec_bit_1_B (s : State) : Result := opBit 1 (.reg .b) s

/-- BIT 1,C (R333). -/
def exec_bit_1_C (s : State) : Result := opBit 1 (.reg .c) s

/-- BIT 1,D (R333). -/
def exec_bit_1_D (s : State) : Result := opBit 1 (.reg .d) s

/-- BIT 1,E (R333). -/
def exec_bit_1_E (s : State) : Result := opBit 1 (.reg .e) s

/-- BIT 1,H (R333). -/
def exec_bit_1_H (s : State) : Result := opBit 1 (.reg .h) s

/-- BIT 1,L (R333). -/
def exec_bit_1_L (s : State) : Result := opBit 1 (.reg .l) s

/-- BIT 1,(HL) (R333). -/
def exec_bit_1_atHL (s : State) : Result := opBit 1 .atHL s

/-- BIT 1,A (R333). -/
def exec_bit_1_A (s : State) : Result := opBit 1 (.reg .a) s

/-- BIT 2,B (R333). -/
def exec_bit_2_B (s : State) : Result := opBit 2 (.reg .b) s

/-- BIT 2,C (R333). -/
def exec_bit_2_C (s : State) : Result := opBit 2 (.reg .c) s

/-- BIT 2,D (R333). -/
def exec_bit_2_D (s : State) : Result := opBit 2 (.reg .d) s

/-- BIT 2,E (R333). -/
def exec_bit_2_E (s : State) : Result := opBit 2 (.reg .e) s

/-- BIT 2,H (R333). -/
def exec_bit_2_H (s : State) : Result := opBit 2 (.reg .h) s

/-- BIT 2,L (R333). -/
def exec_bit_2_L (s : State) : Result := opBit 2 (.reg .l) s

/-- BIT 2,(HL) (R333). -/
def exec_bit_2_atHL (s : State) : Result := opBit 2 .atHL s

/-- BIT 2,A (R333). -/
def exec_bit_2_A (s : State) : Result := opBit 2 (.reg .a) s

/-- BIT 3,B (R333). -/
def exec_bit_3_B (s : State) : Result := opBit 3 (.reg .b) s

/-- BIT 3,C (R333). -/
def exec_bit_3_C (s : State) : Result := opBit 3 (.reg .c) s

/-- BIT 3,D (R333). -/
def exec_bit_3_D (s : State) : Result := opBit 3 (.reg .d) s

/-- BIT 3,E (R333). -/
def exec_bit_3_E (s : State) : Result := opBit 3 (.reg .e) s

/-- BIT 3,H (R333). -/
def exec_bit_3_H (s : State) : Result := opBit 3 (.reg .h) s

/-- BIT 3,L (R333). -/
def exec_bit_3_L (s : State) : Result := opBit 3 (.reg .l) s

/-- BIT 3,(HL) (R333). -/
def exec_bit_3_atHL (s : State) : Result := opBit 3 .atHL s

/-- BIT 3,A (R333). -/
def exec_bit_3_A (s : State) : Result := opBit 3 (.reg .a) s

/-- BIT 4,B (R333). -/
def exec_bit_4_B (s : State) : Result := opBit 4 (.reg .b) s

/-- BIT 4,C (R333). -/
def exec_bit_4_C (s : State) : Result := opBit 4 (.reg .c) s

/-- BIT 4,D (R333). -/
def exec_bit_4_D (s : State) : Result := opBit 4 (.reg .d) s

/-- BIT 4,E (R333). -/
def exec_bit_4_E (s : State) : Result := opBit 4 (.reg .e) s

/-- BIT 4,H (R333). -/
def exec_bit_4_H (s : State) : Result := opBit 4 (.reg .h) s

/-- BIT 4,L (R333). -/
def exec_bit_4_L (s : State) : Result := opBit 4 (.reg .l) s

/-- BIT 4,(HL) (R333). -/
def exec_bit_4_atHL (s : State) : Result := opBit 4 .atHL s

/-- BIT 4,A (R333). -/
def exec_bit_4_A (s : State) : Result := opBit 4 (.reg .a) s

/-- BIT 5,B (R333). -/
def exec_bit_5_B (s : State) : Result := opBit 5 (.reg .b) s

/-- BIT 5,C (R333). -/
def exec_bit_5_C (s : State) : Result := opBit 5 (.reg .c) s

/-- BIT 5,D (R333). -/
def exec_bit_5_D (s : State) : Result := opBit 5 (.reg .d) s

/-- BIT 5,E (R333). -/
def exec_bit_5_E (s : State) : Result := opBit 5 (.reg .e) s

/-- BIT 5,H (R333). -/
def exec_bit_5_H (s : State) : Result := opBit 5 (.reg .h) s

/-- BIT 5,L (R333). -/
def exec_bit_5_L (s : State) : Result := opBit 5 (.reg .l) s

/-- BIT 5,(HL) (R333). -/
def exec_bit_5_atHL (s : State) : Result := opBit 5 .atHL s

/-- BIT 5,A (R333). -/
def exec_bit_5_A (s : State) : Result := opBit 5 (.reg .a) s

/-- BIT 6,B (R333). -/
def exec_bit_6_B (s : State) : Result := opBit 6 (.reg .b) s

/-- BIT 6,C (R333). -/
def exec_bit_6_C (s : State) : Result := opBit 6 (.reg .c) s

/-- BIT 6,D (R333). -/
def exec_bit_6_D (s : State) : Result := opBit 6 (.reg .d) s

/-- BIT 6,E (R333). -/
def exec_bit_6_E (s : State) : Result := opBit 6 (.reg .e) s

/-- BIT 6,H (R333). -/
def exec_bit_6_H (s : State) : Result := opBit 6 (.reg .h) s

/-- BIT 6,L (R333). -/
def exec_bit_6_L (s : State) : Result := opBit 6 (.reg .l) s

/-- BIT 6,(HL) (R333). -/
def exec_bit_6_atHL (s : State) : Result := opBit 6 .atHL s

/-- BIT 6,A (R333). -/
def exec_bit_6_A (s : State) : Result := opBit 6 (.reg .a) s

/-- BIT 7,B (R333). -/
def exec_bit_7_B (s : State) : Result := opBit 7 (.reg .b) s

/-- BIT 7,C (R333). -/
def exec_bit_7_C (s : State) : Result := opBit 7 (.reg .c) s

/-- BIT 7,D (R333). -/
def exec_bit_7_D (s : State) : Result := opBit 7 (.reg .d) s

/-- BIT 7,E (R333). -/
def exec_bit_7_E (s : State) : Result := opBit 7 (.reg .e) s

/-- BIT 7,H (R333). -/
def exec_bit_7_H (s : State) : Result := opBit 7 (.reg .h) s

/-- BIT 7,L (R333). -/
def exec_bit_7_L (s : State) : Result := opBit 7 (.reg .l) s

/-- BIT 7,(HL) (R333). -/
def exec_bit_7_atHL (s : State) : Result := opBit 7 .atHL s

/-- BIT 7,A (R333). -/
def exec_bit_7_A (s : State) : Result := opBit 7 (.reg .a) s

/-- RES 0,B (R334). -/
def exec_res_0_B (s : State) : Result := opRes 0 (.reg .b) s

/-- RES 0,C (R334). -/
def exec_res_0_C (s : State) : Result := opRes 0 (.reg .c) s

/-- RES 0,D (R334). -/
def exec_res_0_D (s : State) : Result := opRes 0 (.reg .d) s

/-- RES 0,E (R334). -/
def exec_res_0_E (s : State) : Result := opRes 0 (.reg .e) s

/-- RES 0,H (R334). -/
def exec_res_0_H (s : State) : Result := opRes 0 (.reg .h) s

/-- RES 0,L (R334). -/
def exec_res_0_L (s : State) : Result := opRes 0 (.reg .l) s

/-- RES 0,(HL) (R334). -/
def exec_res_0_atHL (s : State) : Result := opRes 0 .atHL s

/-- RES 0,A (R334). -/
def exec_res_0_A (s : State) : Result := opRes 0 (.reg .a) s

/-- RES 1,B (R334). -/
def exec_res_1_B (s : State) : Result := opRes 1 (.reg .b) s

/-- RES 1,C (R334). -/
def exec_res_1_C (s : State) : Result := opRes 1 (.reg .c) s

/-- RES 1,D (R334). -/
def exec_res_1_D (s : State) : Result := opRes 1 (.reg .d) s

/-- RES 1,E (R334). -/
def exec_res_1_E (s : State) : Result := opRes 1 (.reg .e) s

/-- RES 1,H (R334). -/
def exec_res_1_H (s : State) : Result := opRes 1 (.reg .h) s

/-- RES 1,L (R334). -/
def exec_res_1_L (s : State) : Result := opRes 1 (.reg .l) s

/-- RES 1,(HL) (R334). -/
def exec_res_1_atHL (s : State) : Result := opRes 1 .atHL s

/-- RES 1,A (R334). -/
def exec_res_1_A (s : State) : Result := opRes 1 (.reg .a) s

/-- RES 2,B (R334). -/
def exec_res_2_B (s : State) : Result := opRes 2 (.reg .b) s

/-- RES 2,C (R334). -/
def exec_res_2_C (s : State) : Result := opRes 2 (.reg .c) s

/-- RES 2,D (R334). -/
def exec_res_2_D (s : State) : Result := opRes 2 (.reg .d) s

/-- RES 2,E (R334). -/
def exec_res_2_E (s : State) : Result := opRes 2 (.reg .e) s

/-- RES 2,H (R334). -/
def exec_res_2_H (s : State) : Result := opRes 2 (.reg .h) s

/-- RES 2,L (R334). -/
def exec_res_2_L (s : State) : Result := opRes 2 (.reg .l) s

/-- RES 2,(HL) (R334). -/
def exec_res_2_atHL (s : State) : Result := opRes 2 .atHL s

/-- RES 2,A (R334). -/
def exec_res_2_A (s : State) : Result := opRes 2 (.reg .a) s

/-- RES 3,B (R334). -/
def exec_res_3_B (s : State) : Result := opRes 3 (.reg .b) s

/-- RES 3,C (R334). -/
def exec_res_3_C (s : State) : Result := opRes 3 (.reg .c) s

/-- RES 3,D (R334). -/
def exec_res_3_D (s : State) : Result := opRes 3 (.reg .d) s

/-- RES 3,E (R334). -/
def exec_res_3_E (s : State) : Result := opRes 3 (.reg .e) s

/-- RES 3,H (R334). -/
def exec_res_3_H (s : State) : Result := opRes 3 (.reg .h) s

/-- RES 3,L (R334). -/
def exec_res_3_L (s : State) : Result := opRes 3 (.reg .l) s

/-- RES 3,(HL) (R334). -/
def exec_res_3_atHL (s : State) : Result := opRes 3 .atHL s

/-- RES 3,A (R334). -/
def exec_res_3_A (s : State) : Result := opRes 3 (.reg .a) s

/-- RES 4,B (R334). -/
def exec_res_4_B (s : State) : Result := opRes 4 (.reg .b) s

/-- RES 4,C (R334). -/
def exec_res_4_C (s : State) : Result := opRes 4 (.reg .c) s

/-- RES 4,D (R334). -/
def exec_res_4_D (s : State) : Result := opRes 4 (.reg .d) s

/-- RES 4,E (R334). -/
def exec_res_4_E (s : State) : Result := opRes 4 (.reg .e) s

/-- RES 4,H (R334). -/
def exec_res_4_H (s : State) : Result := opRes 4 (.reg .h) s

/-- RES 4,L (R334). -/
def exec_res_4_L (s : State) : Result := opRes 4 (.reg .l) s

/-- RES 4,(HL) (R334). -/
def exec_res_4_atHL (s : State) : Result := opRes 4 .atHL s

/-- RES 4,A (R334). -/
def exec_res_4_A (s : State) : Result := opRes 4 (.reg .a) s

/-- RES 5,B (R334). -/
def exec_res_5_B (s : State) : Result := opRes 5 (.reg .b) s

/-- RES 5,C (R334). -/
def exec_res_5_C (s : State) : Result := opRes 5 (.reg .c) s

/-- RES 5,D (R334). -/
def exec_res_5_D (s : State) : Result := opRes 5 (.reg .d) s

/-- RES 5,E (R334). -/
def exec_res_5_E (s : State) : Result := opRes 5 (.reg .e) s

/-- RES 5,H (R334). -/
def exec_res_5_H (s : State) : Result := opRes 5 (.reg .h) s

/-- RES 5,L (R334). -/
def exec_res_5_L (s : State) : Result := opRes 5 (.reg .l) s

/-- RES 5,(HL) (R334). -/
def exec_res_5_atHL (s : State) : Result := opRes 5 .atHL s

/-- RES 5,A (R334). -/
def exec_res_5_A (s : State) : Result := opRes 5 (.reg .a) s

/-- RES 6,B (R334). -/
def exec_res_6_B (s : State) : Result := opRes 6 (.reg .b) s

/-- RES 6,C (R334). -/
def exec_res_6_C (s : State) : Result := opRes 6 (.reg .c) s

/-- RES 6,D (R334). -/
def exec_res_6_D (s : State) : Result := opRes 6 (.reg .d) s

/-- RES 6,E (R334). -/
def exec_res_6_E (s : State) : Result := opRes 6 (.reg .e) s

/-- RES 6,H (R334). -/
def exec_res_6_H (s : State) : Result := opRes 6 (.reg .h) s

/-- RES 6,L (R334). -/
def exec_res_6_L (s : State) : Result := opRes 6 (.reg .l) s

/-- RES 6,(HL) (R334). -/
def exec_res_6_atHL (s : State) : Result := opRes 6 .atHL s

/-- RES 6,A (R334). -/
def exec_res_6_A (s : State) : Result := opRes 6 (.reg .a) s

/-- RES 7,B (R334). -/
def exec_res_7_B (s : State) : Result := opRes 7 (.reg .b) s

/-- RES 7,C (R334). -/
def exec_res_7_C (s : State) : Result := opRes 7 (.reg .c) s

/-- RES 7,D (R334). -/
def exec_res_7_D (s : State) : Result := opRes 7 (.reg .d) s

/-- RES 7,E (R334). -/
def exec_res_7_E (s : State) : Result := opRes 7 (.reg .e) s

/-- RES 7,H (R334). -/
def exec_res_7_H (s : State) : Result := opRes 7 (.reg .h) s

/-- RES 7,L (R334). -/
def exec_res_7_L (s : State) : Result := opRes 7 (.reg .l) s

/-- RES 7,(HL) (R334). -/
def exec_res_7_atHL (s : State) : Result := opRes 7 .atHL s

/-- RES 7,A (R334). -/
def exec_res_7_A (s : State) : Result := opRes 7 (.reg .a) s

/-- SET 0,B (R335). -/
def exec_set_0_B (s : State) : Result := opSet 0 (.reg .b) s

/-- SET 0,C (R335). -/
def exec_set_0_C (s : State) : Result := opSet 0 (.reg .c) s

/-- SET 0,D (R335). -/
def exec_set_0_D (s : State) : Result := opSet 0 (.reg .d) s

/-- SET 0,E (R335). -/
def exec_set_0_E (s : State) : Result := opSet 0 (.reg .e) s

/-- SET 0,H (R335). -/
def exec_set_0_H (s : State) : Result := opSet 0 (.reg .h) s

/-- SET 0,L (R335). -/
def exec_set_0_L (s : State) : Result := opSet 0 (.reg .l) s

/-- SET 0,(HL) (R335). -/
def exec_set_0_atHL (s : State) : Result := opSet 0 .atHL s

/-- SET 0,A (R335). -/
def exec_set_0_A (s : State) : Result := opSet 0 (.reg .a) s

/-- SET 1,B (R335). -/
def exec_set_1_B (s : State) : Result := opSet 1 (.reg .b) s

/-- SET 1,C (R335). -/
def exec_set_1_C (s : State) : Result := opSet 1 (.reg .c) s

/-- SET 1,D (R335). -/
def exec_set_1_D (s : State) : Result := opSet 1 (.reg .d) s

/-- SET 1,E (R335). -/
def exec_set_1_E (s : State) : Result := opSet 1 (.reg .e) s

/-- SET 1,H (R335). -/
def exec_set_1_H (s : State) : Result := opSet 1 (.reg .h) s

/-- SET 1,L (R335). -/
def exec_set_1_L (s : State) : Result := opSet 1 (.reg .l) s

/-- SET 1,(HL) (R335). -/
def exec_set_1_atHL (s : State) : Result := opSet 1 .atHL s

/-- SET 1,A (R335). -/
def exec_set_1_A (s : State) : Result := opSet 1 (.reg .a) s

/-- SET 2,B (R335). -/
def exec_set_2_B (s : State) : Result := opSet 2 (.reg .b) s

/-- SET 2,C (R335). -/
def exec_set_2_C (s : State) : Result := opSet 2 (.reg .c) s

/-- SET 2,D (R335). -/
def exec_set_2_D (s : State) : Result := opSet 2 (.reg .d) s

/-- SET 2,E (R335). -/
def exec_set_2_E (s : State) : Result := opSet 2 (.reg .e) s

/-- SET 2,H (R335). -/
def exec_set_2_H (s : State) : Result := opSet 2 (.reg .h) s

/-- SET 2,L (R335). -/
def exec_set_2_L (s : State) : Result := opSet 2 (.reg .l) s

/-- SET 2,(HL) (R335). -/
def exec_set_2_atHL (s : State) : Result := opSet 2 .atHL s

/-- SET 2,A (R335). -/
def exec_set_2_A (s : State) : Result := opSet 2 (.reg .a) s

/-- SET 3,B (R335). -/
def exec_set_3_B (s : State) : Result := opSet 3 (.reg .b) s

/-- SET 3,C (R335). -/
def exec_set_3_C (s : State) : Result := opSet 3 (.reg .c) s

/-- SET 3,D (R335). -/
def exec_set_3_D (s : State) : Result := opSet 3 (.reg .d) s

/-- SET 3,E (R335). -/
def exec_set_3_E (s : State) : Result := opSet 3 (.reg .e) s

/-- SET 3,H (R335). -/
def exec_set_3_H (s : State) : Result := opSet 3 (.reg .h) s

/-- SET 3,L (R335). -/
def exec_set_3_L (s : State) : Result := opSet 3 (.reg .l) s

/-- SET 3,(HL) (R335). -/
def exec_set_3_atHL (s : State) : Result := opSet 3 .atHL s

/-- SET 3,A (R335). -/
def exec_set_3_A (s : State) : Result := opSet 3 (.reg .a) s

/-- SET 4,B (R335). -/
def exec_set_4_B (s : State) : Result := opSet 4 (.reg .b) s

/-- SET 4,C (R335). -/
def exec_set_4_C (s : State) : Result := opSet 4 (.reg .c) s

/-- SET 4,D (R335). -/
def exec_set_4_D (s : State) : Result := opSet 4 (.reg .d) s

/-- SET 4,E (R335). -/
def exec_set_4_E (s : State) : Result := opSet 4 (.reg .e) s

/-- SET 4,H (R335). -/
def exec_set_4_H (s : State) : Result := opSet 4 (.reg .h) s

/-- SET 4,L (R335). -/
def exec_set_4_L (s : State) : Result := opSet 4 (.reg .l) s

/-- SET 4,(HL) (R335). -/
def exec_set_4_atHL (s : State) : Result := opSet 4 .atHL s

/-- SET 4,A (R335). -/
def exec_set_4_A (s : State) : Result := opSet 4 (.reg .a) s

/-- SET 5,B (R335). -/
def exec_set_5_B (s : State) : Result := opSet 5 (.reg .b) s

/-- SET 5,C (R335). -/
def exec_set_5_C (s : State) : Result := opSet 5 (.reg .c) s

/-- SET 5,D (R335). -/
def exec_set_5_D (s : State) : Result := opSet 5 (.reg .d) s

/-- SET 5,E (R335). -/
def exec_set_5_E (s : State) : Result := opSet 5 (.reg .e) s

/-- SET 5,H (R335). -/
def exec_set_5_H (s : State) : Result := opSet 5 (.reg .h) s

/-- SET 5,L (R335). -/
def exec_set_5_L (s : State) : Result := opSet 5 (.reg .l) s

/-- SET 5,(HL) (R335). -/
def exec_set_5_atHL (s : State) : Result := opSet 5 .atHL s

/-- SET 5,A (R335). -/
def exec_set_5_A (s : State) : Result := opSet 5 (.reg .a) s

/-- SET 6,B (R335). -/
def exec_set_6_B (s : State) : Result := opSet 6 (.reg .b) s

/-- SET 6,C (R335). -/
def exec_set_6_C (s : State) : Result := opSet 6 (.reg .c) s

/-- SET 6,D (R335). -/
def exec_set_6_D (s : State) : Result := opSet 6 (.reg .d) s

/-- SET 6,E (R335). -/
def exec_set_6_E (s : State) : Result := opSet 6 (.reg .e) s

/-- SET 6,H (R335). -/
def exec_set_6_H (s : State) : Result := opSet 6 (.reg .h) s

/-- SET 6,L (R335). -/
def exec_set_6_L (s : State) : Result := opSet 6 (.reg .l) s

/-- SET 6,(HL) (R335). -/
def exec_set_6_atHL (s : State) : Result := opSet 6 .atHL s

/-- SET 6,A (R335). -/
def exec_set_6_A (s : State) : Result := opSet 6 (.reg .a) s

/-- SET 7,B (R335). -/
def exec_set_7_B (s : State) : Result := opSet 7 (.reg .b) s

/-- SET 7,C (R335). -/
def exec_set_7_C (s : State) : Result := opSet 7 (.reg .c) s

/-- SET 7,D (R335). -/
def exec_set_7_D (s : State) : Result := opSet 7 (.reg .d) s

/-- SET 7,E (R335). -/
def exec_set_7_E (s : State) : Result := opSet 7 (.reg .e) s

/-- SET 7,H (R335). -/
def exec_set_7_H (s : State) : Result := opSet 7 (.reg .h) s

/-- SET 7,L (R335). -/
def exec_set_7_L (s : State) : Result := opSet 7 (.reg .l) s

/-- SET 7,(HL) (R335). -/
def exec_set_7_atHL (s : State) : Result := opSet 7 .atHL s

/-- SET 7,A (R335). -/
def exec_set_7_A (s : State) : Result := opSet 7 (.reg .a) s

end Sys2Proof.Machine
end

