-- ==== Sys2Proof/Machine/Prefix.lean ====
section
/-!
DEFINITION. The CB prefix descriptor (40_dispatch.md R177): its run dispatches through the table `tcb` of 256
sub-descriptors, laid out as the map of 30_encoding.md R131.
-/

namespace Sys2Proof.Machine

/-- Row 0x of TCB (R131). -/
def tcbRow0 : Vector (State → Result) 16 :=
  #v[exec_rlc_B, exec_rlc_C, exec_rlc_D, exec_rlc_E,
     exec_rlc_H, exec_rlc_L, exec_rlc_atHL, exec_rlc_A,
     exec_rrc_B, exec_rrc_C, exec_rrc_D, exec_rrc_E,
     exec_rrc_H, exec_rrc_L, exec_rrc_atHL, exec_rrc_A]

/-- Row 1x of TCB (R131). -/
def tcbRow1 : Vector (State → Result) 16 :=
  #v[exec_rl_B, exec_rl_C, exec_rl_D, exec_rl_E,
     exec_rl_H, exec_rl_L, exec_rl_atHL, exec_rl_A,
     exec_rr_B, exec_rr_C, exec_rr_D, exec_rr_E,
     exec_rr_H, exec_rr_L, exec_rr_atHL, exec_rr_A]

/-- Row 2x of TCB (R131). -/
def tcbRow2 : Vector (State → Result) 16 :=
  #v[exec_sla_B, exec_sla_C, exec_sla_D, exec_sla_E,
     exec_sla_H, exec_sla_L, exec_sla_atHL, exec_sla_A,
     exec_sra_B, exec_sra_C, exec_sra_D, exec_sra_E,
     exec_sra_H, exec_sra_L, exec_sra_atHL, exec_sra_A]

/-- Row 3x of TCB (R131). -/
def tcbRow3 : Vector (State → Result) 16 :=
  #v[exec_swap_B, exec_swap_C, exec_swap_D, exec_swap_E,
     exec_swap_H, exec_swap_L, exec_swap_atHL, exec_swap_A,
     exec_srl_B, exec_srl_C, exec_srl_D, exec_srl_E,
     exec_srl_H, exec_srl_L, exec_srl_atHL, exec_srl_A]

/-- Row 4x of TCB (R131). -/
def tcbRow4 : Vector (State → Result) 16 :=
  #v[exec_bit_0_B, exec_bit_0_C, exec_bit_0_D, exec_bit_0_E,
     exec_bit_0_H, exec_bit_0_L, exec_bit_0_atHL, exec_bit_0_A,
     exec_bit_1_B, exec_bit_1_C, exec_bit_1_D, exec_bit_1_E,
     exec_bit_1_H, exec_bit_1_L, exec_bit_1_atHL, exec_bit_1_A]

/-- Row 5x of TCB (R131). -/
def tcbRow5 : Vector (State → Result) 16 :=
  #v[exec_bit_2_B, exec_bit_2_C, exec_bit_2_D, exec_bit_2_E,
     exec_bit_2_H, exec_bit_2_L, exec_bit_2_atHL, exec_bit_2_A,
     exec_bit_3_B, exec_bit_3_C, exec_bit_3_D, exec_bit_3_E,
     exec_bit_3_H, exec_bit_3_L, exec_bit_3_atHL, exec_bit_3_A]

/-- Row 6x of TCB (R131). -/
def tcbRow6 : Vector (State → Result) 16 :=
  #v[exec_bit_4_B, exec_bit_4_C, exec_bit_4_D, exec_bit_4_E,
     exec_bit_4_H, exec_bit_4_L, exec_bit_4_atHL, exec_bit_4_A,
     exec_bit_5_B, exec_bit_5_C, exec_bit_5_D, exec_bit_5_E,
     exec_bit_5_H, exec_bit_5_L, exec_bit_5_atHL, exec_bit_5_A]

/-- Row 7x of TCB (R131). -/
def tcbRow7 : Vector (State → Result) 16 :=
  #v[exec_bit_6_B, exec_bit_6_C, exec_bit_6_D, exec_bit_6_E,
     exec_bit_6_H, exec_bit_6_L, exec_bit_6_atHL, exec_bit_6_A,
     exec_bit_7_B, exec_bit_7_C, exec_bit_7_D, exec_bit_7_E,
     exec_bit_7_H, exec_bit_7_L, exec_bit_7_atHL, exec_bit_7_A]

/-- Row 8x of TCB (R131). -/
def tcbRow8 : Vector (State → Result) 16 :=
  #v[exec_res_0_B, exec_res_0_C, exec_res_0_D, exec_res_0_E,
     exec_res_0_H, exec_res_0_L, exec_res_0_atHL, exec_res_0_A,
     exec_res_1_B, exec_res_1_C, exec_res_1_D, exec_res_1_E,
     exec_res_1_H, exec_res_1_L, exec_res_1_atHL, exec_res_1_A]

/-- Row 9x of TCB (R131). -/
def tcbRow9 : Vector (State → Result) 16 :=
  #v[exec_res_2_B, exec_res_2_C, exec_res_2_D, exec_res_2_E,
     exec_res_2_H, exec_res_2_L, exec_res_2_atHL, exec_res_2_A,
     exec_res_3_B, exec_res_3_C, exec_res_3_D, exec_res_3_E,
     exec_res_3_H, exec_res_3_L, exec_res_3_atHL, exec_res_3_A]

/-- Row Ax of TCB (R131). -/
def tcbRowA : Vector (State → Result) 16 :=
  #v[exec_res_4_B, exec_res_4_C, exec_res_4_D, exec_res_4_E,
     exec_res_4_H, exec_res_4_L, exec_res_4_atHL, exec_res_4_A,
     exec_res_5_B, exec_res_5_C, exec_res_5_D, exec_res_5_E,
     exec_res_5_H, exec_res_5_L, exec_res_5_atHL, exec_res_5_A]

/-- Row Bx of TCB (R131). -/
def tcbRowB : Vector (State → Result) 16 :=
  #v[exec_res_6_B, exec_res_6_C, exec_res_6_D, exec_res_6_E,
     exec_res_6_H, exec_res_6_L, exec_res_6_atHL, exec_res_6_A,
     exec_res_7_B, exec_res_7_C, exec_res_7_D, exec_res_7_E,
     exec_res_7_H, exec_res_7_L, exec_res_7_atHL, exec_res_7_A]

/-- Row Cx of TCB (R131). -/
def tcbRowC : Vector (State → Result) 16 :=
  #v[exec_set_0_B, exec_set_0_C, exec_set_0_D, exec_set_0_E,
     exec_set_0_H, exec_set_0_L, exec_set_0_atHL, exec_set_0_A,
     exec_set_1_B, exec_set_1_C, exec_set_1_D, exec_set_1_E,
     exec_set_1_H, exec_set_1_L, exec_set_1_atHL, exec_set_1_A]

/-- Row Dx of TCB (R131). -/
def tcbRowD : Vector (State → Result) 16 :=
  #v[exec_set_2_B, exec_set_2_C, exec_set_2_D, exec_set_2_E,
     exec_set_2_H, exec_set_2_L, exec_set_2_atHL, exec_set_2_A,
     exec_set_3_B, exec_set_3_C, exec_set_3_D, exec_set_3_E,
     exec_set_3_H, exec_set_3_L, exec_set_3_atHL, exec_set_3_A]

/-- Row Ex of TCB (R131). -/
def tcbRowE : Vector (State → Result) 16 :=
  #v[exec_set_4_B, exec_set_4_C, exec_set_4_D, exec_set_4_E,
     exec_set_4_H, exec_set_4_L, exec_set_4_atHL, exec_set_4_A,
     exec_set_5_B, exec_set_5_C, exec_set_5_D, exec_set_5_E,
     exec_set_5_H, exec_set_5_L, exec_set_5_atHL, exec_set_5_A]

/-- Row Fx of TCB (R131). -/
def tcbRowF : Vector (State → Result) 16 :=
  #v[exec_set_6_B, exec_set_6_C, exec_set_6_D, exec_set_6_E,
     exec_set_6_H, exec_set_6_L, exec_set_6_atHL, exec_set_6_A,
     exec_set_7_B, exec_set_7_C, exec_set_7_D, exec_set_7_E,
     exec_set_7_H, exec_set_7_L, exec_set_7_atHL, exec_set_7_A]

/-- TCB (R177): the row is the high nibble of the sub-opcode, the column its low nibble. -/
def tcb : Vector (Vector (State → Result) 16) 16 :=
  #v[tcbRow0, tcbRow1, tcbRow2, tcbRow3, tcbRow4, tcbRow5, tcbRow6, tcbRow7,
     tcbRow8, tcbRow9, tcbRowA, tcbRowB, tcbRowC, tcbRowD, tcbRowE, tcbRowF]

/-- PREFIX CB (R177): the sub-descriptor that the sub-opcode selects. Its meaning fetches both bytes. -/
def exec_prefix_CB (sub : Byte) (s : State) : Result :=
  ((tcb[sub.toNat / 16]'(by have := sub.isLt; omega))[sub.toNat % 16]'(by omega)) s

end Sys2Proof.Machine
end

