-- ==== Sys2Proof/Machine/System.lean ====
section
/-!
DEFINITION. NOP, the illegal bytes, HALT, STOP, DI and EI: 47_system.md R460 to R465. Each operation starts with
pc at the opcode (`State.fetched`) and ends with the cost of its rule (`done`).
-/

namespace Sys2Proof.Machine

/-! ## Shared operations -/

/-- NOP (R460). -/
def opNop (s : State) : Result := done 1 (s.fetched 1)

/-- A byte with no descriptor (R461, R176): the outcome Unimplemented, with the byte and its address; the opcode fetch
is the only access, and nothing else changes. -/
def opIllegal (op : Byte) (s : State) : Result := .fault (.unimplemented op s.pc s.opcodeRead)

/-- HALT (R462): pc back at its own address. -/
def opHalt (s : State) : Result := done 1 ((s.fetched 1).setPc s.pc)

/-- STOP (R463): as HALT; the second byte is not read. -/
def opStop (s : State) : Result := done 1 ((s.fetched 1).setPc s.pc)

/-- DI (R464). -/
def opDi (s : State) : Result := done 1 (((s.fetched 1).setIme false).setEiPending false)

/-- EI (R465): IME follows at the end of the next instruction (`eiDelay`, Fetch.lean). -/
def opEi (s : State) : Result := done 1 ((s.fetched 1).setEiPending true)

/-! ## The meanings -/

/-- NOP (R460). -/
def exec_nop (s : State) : Result := opNop s

/-- STOP (R463); its second byte has no effect. -/
def exec_stop (s : State) : Result := opStop s

/-- HALT (R462). -/
def exec_halt (s : State) : Result := opHalt s

/-- The illegal bytes (R461). -/
def exec_illegal (op : Byte) (s : State) : Result := opIllegal op s

/-- DI (R464). -/
def exec_di (s : State) : Result := opDi s

/-- EI (R465). -/
def exec_ei (s : State) : Result := opEi s

end Sys2Proof.Machine
end

