-- ==== Sys2Proof/WellFormed.lean ====
section
/-!
DEFINITION. Well-formed instructions. Every operand but one is typed to exactly the values its encoding admits
(30_encoding.md R121 to R129), so the one check is on ILLEGAL's byte (R132).
-/

namespace Sys2Proof

/-- The eleven bytes with no descriptor under `OPCODE_SET = FULL` (R132, R461). -/
def illegalBytes : List Byte :=
  [0xD3, 0xDB, 0xDD, 0xE3, 0xE4, 0xEB, 0xEC, 0xED, 0xF4, 0xFC, 0xFD]

/-- An instruction that the encoding admits. The last arm covers the 501 constructors whose operands, if any, may
take every value of their type. -/
def Instr.wellFormed : Instr → Bool
  | .illegal op => illegalBytes.contains op
  | _ => true

end Sys2Proof
end

