-- ==== Sys2Proof/Decode.lean ====
section
/-!
DEFINITION. Decoding and encoding. The decoder is the two opcode maps of 30_encoding.md, R130 (primary bytes) and R131
(CB sub-opcodes), written as the manual prints them: a row for each high nibble, a column for each low nibble. The
encoder is written from the field laws R121 to R129 instead, so that the round trip compares the two.
-/

namespace Sys2Proof

open Sys2Proof.Machine (wordOf lo8 hi8)

/-! ## The primary opcode map (R130). `n` is the byte after the opcode, `nn` the little-endian word after it (R129). -/

/-- Row 0x of the map of R130. -/
def primaryRow0 (n : Byte) (nn : Word) : Vector Instr 16 :=
  #v[.nop, .ld_BC_nn nn, .ld_atBC_A, .inc_BC, .inc_B, .dec_B, .ld_B_n n, .rlca,
     .ld_atnn_SP nn, .add_HL_BC, .ld_A_atBC, .dec_BC, .inc_C, .dec_C, .ld_C_n n, .rrca]

/-- Row 1x of the map of R130. -/
def primaryRow1 (n : Byte) (nn : Word) : Vector Instr 16 :=
  #v[.stop n, .ld_DE_nn nn, .ld_atDE_A, .inc_DE, .inc_D, .dec_D, .ld_D_n n, .rla,
     .jr_e n, .add_HL_DE, .ld_A_atDE, .dec_DE, .inc_E, .dec_E, .ld_E_n n, .rra]

/-- Row 2x of the map of R130. -/
def primaryRow2 (n : Byte) (nn : Word) : Vector Instr 16 :=
  #v[.jr_NZ_e n, .ld_HL_nn nn, .ld_atHLinc_A, .inc_HL, .inc_H, .dec_H, .ld_H_n n, .daa,
     .jr_Z_e n, .add_HL_HL, .ld_A_atHLinc, .dec_HL, .inc_L, .dec_L, .ld_L_n n, .cpl]

/-- Row 3x of the map of R130. -/
def primaryRow3 (n : Byte) (nn : Word) : Vector Instr 16 :=
  #v[.jr_NC_e n, .ld_SP_nn nn, .ld_atHLdec_A, .inc_SP, .inc_atHL, .dec_atHL, .ld_atHL_n n, .scf,
     .jr_C_e n, .add_HL_SP, .ld_A_atHLdec, .dec_SP, .inc_A, .dec_A, .ld_A_n n, .ccf]

/-- Row 4x of the map of R130. -/
def primaryRow4 (_ : Byte) (_ : Word) : Vector Instr 16 :=
  #v[.ld_B_B, .ld_B_C, .ld_B_D, .ld_B_E, .ld_B_H, .ld_B_L, .ld_B_atHL, .ld_B_A,
     .ld_C_B, .ld_C_C, .ld_C_D, .ld_C_E, .ld_C_H, .ld_C_L, .ld_C_atHL, .ld_C_A]

/-- Row 5x of the map of R130. -/
def primaryRow5 (_ : Byte) (_ : Word) : Vector Instr 16 :=
  #v[.ld_D_B, .ld_D_C, .ld_D_D, .ld_D_E, .ld_D_H, .ld_D_L, .ld_D_atHL, .ld_D_A,
     .ld_E_B, .ld_E_C, .ld_E_D, .ld_E_E, .ld_E_H, .ld_E_L, .ld_E_atHL, .ld_E_A]

/-- Row 6x of the map of R130. -/
def primaryRow6 (_ : Byte) (_ : Word) : Vector Instr 16 :=
  #v[.ld_H_B, .ld_H_C, .ld_H_D, .ld_H_E, .ld_H_H, .ld_H_L, .ld_H_atHL, .ld_H_A,
     .ld_L_B, .ld_L_C, .ld_L_D, .ld_L_E, .ld_L_H, .ld_L_L, .ld_L_atHL, .ld_L_A]

/-- Row 7x of the map of R130. -/
def primaryRow7 (_ : Byte) (_ : Word) : Vector Instr 16 :=
  #v[.ld_atHL_B, .ld_atHL_C, .ld_atHL_D, .ld_atHL_E, .ld_atHL_H, .ld_atHL_L, .halt, .ld_atHL_A,
     .ld_A_B, .ld_A_C, .ld_A_D, .ld_A_E, .ld_A_H, .ld_A_L, .ld_A_atHL, .ld_A_A]

/-- Row 8x of the map of R130. -/
def primaryRow8 (_ : Byte) (_ : Word) : Vector Instr 16 :=
  #v[.add_A_B, .add_A_C, .add_A_D, .add_A_E, .add_A_H, .add_A_L, .add_A_atHL, .add_A_A,
     .adc_A_B, .adc_A_C, .adc_A_D, .adc_A_E, .adc_A_H, .adc_A_L, .adc_A_atHL, .adc_A_A]

/-- Row 9x of the map of R130. -/
def primaryRow9 (_ : Byte) (_ : Word) : Vector Instr 16 :=
  #v[.sub_B, .sub_C, .sub_D, .sub_E, .sub_H, .sub_L, .sub_atHL, .sub_A,
     .sbc_A_B, .sbc_A_C, .sbc_A_D, .sbc_A_E, .sbc_A_H, .sbc_A_L, .sbc_A_atHL, .sbc_A_A]

/-- Row Ax of the map of R130. -/
def primaryRowA (_ : Byte) (_ : Word) : Vector Instr 16 :=
  #v[.and_B, .and_C, .and_D, .and_E, .and_H, .and_L, .and_atHL, .and_A,
     .xor_B, .xor_C, .xor_D, .xor_E, .xor_H, .xor_L, .xor_atHL, .xor_A]

/-- Row Bx of the map of R130. -/
def primaryRowB (_ : Byte) (_ : Word) : Vector Instr 16 :=
  #v[.or_B, .or_C, .or_D, .or_E, .or_H, .or_L, .or_atHL, .or_A,
     .cp_B, .cp_C, .cp_D, .cp_E, .cp_H, .cp_L, .cp_atHL, .cp_A]

/-- Row Cx of the map of R130. -/
def primaryRowC (n : Byte) (nn : Word) : Vector Instr 16 :=
  #v[.ret_NZ, .pop_BC, .jp_NZ_nn nn, .jp_nn nn, .call_NZ_nn nn, .push_BC, .add_A_n n, .rst_00,
     .ret_Z, .ret, .jp_Z_nn nn, .prefix_CB n, .call_Z_nn nn, .call_nn nn, .adc_A_n n, .rst_08]

/-- Row Dx of the map of R130. -/
def primaryRowD (n : Byte) (nn : Word) : Vector Instr 16 :=
  #v[.ret_NC, .pop_DE, .jp_NC_nn nn, .illegal 0xD3, .call_NC_nn nn, .push_DE, .sub_n n, .rst_10,
     .ret_C, .reti, .jp_C_nn nn, .illegal 0xDB, .call_C_nn nn, .illegal 0xDD, .sbc_A_n n, .rst_18]

/-- Row Ex of the map of R130. -/
def primaryRowE (n : Byte) (nn : Word) : Vector Instr 16 :=
  #v[.ldh_atn_A n, .pop_HL, .ld_atC_A, .illegal 0xE3, .illegal 0xE4, .push_HL, .and_n n, .rst_20,
     .add_SP_e n, .jp_HL, .ld_atnn_A nn, .illegal 0xEB, .illegal 0xEC, .illegal 0xED, .xor_n n, .rst_28]

/-- Row Fx of the map of R130. -/
def primaryRowF (n : Byte) (nn : Word) : Vector Instr 16 :=
  #v[.ldh_A_atn n, .pop_AF, .ld_A_atC, .di, .illegal 0xF4, .push_AF, .or_n n, .rst_30,
     .ld_HL_SPe n, .ld_SP_HL, .ld_A_atnn nn, .ei, .illegal 0xFC, .illegal 0xFD, .cp_n n, .rst_38]

/-- The map of R130: the row is the high nibble of the opcode, the column its low nibble. -/
def primaryMap (n : Byte) (nn : Word) : Vector (Vector Instr 16) 16 :=
  #v[primaryRow0 n nn, primaryRow1 n nn, primaryRow2 n nn, primaryRow3 n nn,
     primaryRow4 n nn, primaryRow5 n nn, primaryRow6 n nn, primaryRow7 n nn,
     primaryRow8 n nn, primaryRow9 n nn, primaryRowA n nn, primaryRowB n nn,
     primaryRowC n nn, primaryRowD n nn, primaryRowE n nn, primaryRowF n nn]

/-- The cell of a map of 16 rows and 16 columns that a byte selects (R130, R131). -/
def cell (map : Vector (Vector Instr 16) 16) (op : Byte) : Instr :=
  (map[op.toNat / 16]'(by have := op.isLt; omega))[op.toNat % 16]'(by omega)

/-- `T[op]` with its operand bytes `b1`, `b2` (R130, R136): keyed on the first byte alone, so that 0xCB gives the
prefix descriptor with its sub-opcode (R177). Total: every byte has a row, the eleven illegal ones included. -/
def decodePrimary (op b1 b2 : Byte) : Instr :=
  cell (primaryMap b1 (wordOf b2 b1)) op

/-! ## The CB sub-opcode map (R131). -/

/-- Row 0x of the map of R131. -/
def cbRow0 : Vector Instr 16 :=
  #v[.rlc_B, .rlc_C, .rlc_D, .rlc_E, .rlc_H, .rlc_L, .rlc_atHL, .rlc_A,
     .rrc_B, .rrc_C, .rrc_D, .rrc_E, .rrc_H, .rrc_L, .rrc_atHL, .rrc_A]

/-- Row 1x of the map of R131. -/
def cbRow1 : Vector Instr 16 :=
  #v[.rl_B, .rl_C, .rl_D, .rl_E, .rl_H, .rl_L, .rl_atHL, .rl_A,
     .rr_B, .rr_C, .rr_D, .rr_E, .rr_H, .rr_L, .rr_atHL, .rr_A]

/-- Row 2x of the map of R131. -/
def cbRow2 : Vector Instr 16 :=
  #v[.sla_B, .sla_C, .sla_D, .sla_E, .sla_H, .sla_L, .sla_atHL, .sla_A,
     .sra_B, .sra_C, .sra_D, .sra_E, .sra_H, .sra_L, .sra_atHL, .sra_A]

/-- Row 3x of the map of R131. -/
def cbRow3 : Vector Instr 16 :=
  #v[.swap_B, .swap_C, .swap_D, .swap_E, .swap_H, .swap_L, .swap_atHL, .swap_A,
     .srl_B, .srl_C, .srl_D, .srl_E, .srl_H, .srl_L, .srl_atHL, .srl_A]

/-- Row 4x of the map of R131. -/
def cbRow4 : Vector Instr 16 :=
  #v[.bit_0_B, .bit_0_C, .bit_0_D, .bit_0_E, .bit_0_H, .bit_0_L, .bit_0_atHL, .bit_0_A,
     .bit_1_B, .bit_1_C, .bit_1_D, .bit_1_E, .bit_1_H, .bit_1_L, .bit_1_atHL, .bit_1_A]

/-- Row 5x of the map of R131. -/
def cbRow5 : Vector Instr 16 :=
  #v[.bit_2_B, .bit_2_C, .bit_2_D, .bit_2_E, .bit_2_H, .bit_2_L, .bit_2_atHL, .bit_2_A,
     .bit_3_B, .bit_3_C, .bit_3_D, .bit_3_E, .bit_3_H, .bit_3_L, .bit_3_atHL, .bit_3_A]

/-- Row 6x of the map of R131. -/
def cbRow6 : Vector Instr 16 :=
  #v[.bit_4_B, .bit_4_C, .bit_4_D, .bit_4_E, .bit_4_H, .bit_4_L, .bit_4_atHL, .bit_4_A,
     .bit_5_B, .bit_5_C, .bit_5_D, .bit_5_E, .bit_5_H, .bit_5_L, .bit_5_atHL, .bit_5_A]

/-- Row 7x of the map of R131. -/
def cbRow7 : Vector Instr 16 :=
  #v[.bit_6_B, .bit_6_C, .bit_6_D, .bit_6_E, .bit_6_H, .bit_6_L, .bit_6_atHL, .bit_6_A,
     .bit_7_B, .bit_7_C, .bit_7_D, .bit_7_E, .bit_7_H, .bit_7_L, .bit_7_atHL, .bit_7_A]

/-- Row 8x of the map of R131. -/
def cbRow8 : Vector Instr 16 :=
  #v[.res_0_B, .res_0_C, .res_0_D, .res_0_E, .res_0_H, .res_0_L, .res_0_atHL, .res_0_A,
     .res_1_B, .res_1_C, .res_1_D, .res_1_E, .res_1_H, .res_1_L, .res_1_atHL, .res_1_A]

/-- Row 9x of the map of R131. -/
def cbRow9 : Vector Instr 16 :=
  #v[.res_2_B, .res_2_C, .res_2_D, .res_2_E, .res_2_H, .res_2_L, .res_2_atHL, .res_2_A,
     .res_3_B, .res_3_C, .res_3_D, .res_3_E, .res_3_H, .res_3_L, .res_3_atHL, .res_3_A]

/-- Row Ax of the map of R131. -/
def cbRowA : Vector Instr 16 :=
  #v[.res_4_B, .res_4_C, .res_4_D, .res_4_E, .res_4_H, .res_4_L, .res_4_atHL, .res_4_A,
     .res_5_B, .res_5_C, .res_5_D, .res_5_E, .res_5_H, .res_5_L, .res_5_atHL, .res_5_A]

/-- Row Bx of the map of R131. -/
def cbRowB : Vector Instr 16 :=
  #v[.res_6_B, .res_6_C, .res_6_D, .res_6_E, .res_6_H, .res_6_L, .res_6_atHL, .res_6_A,
     .res_7_B, .res_7_C, .res_7_D, .res_7_E, .res_7_H, .res_7_L, .res_7_atHL, .res_7_A]

/-- Row Cx of the map of R131. -/
def cbRowC : Vector Instr 16 :=
  #v[.set_0_B, .set_0_C, .set_0_D, .set_0_E, .set_0_H, .set_0_L, .set_0_atHL, .set_0_A,
     .set_1_B, .set_1_C, .set_1_D, .set_1_E, .set_1_H, .set_1_L, .set_1_atHL, .set_1_A]

/-- Row Dx of the map of R131. -/
def cbRowD : Vector Instr 16 :=
  #v[.set_2_B, .set_2_C, .set_2_D, .set_2_E, .set_2_H, .set_2_L, .set_2_atHL, .set_2_A,
     .set_3_B, .set_3_C, .set_3_D, .set_3_E, .set_3_H, .set_3_L, .set_3_atHL, .set_3_A]

/-- Row Ex of the map of R131. -/
def cbRowE : Vector Instr 16 :=
  #v[.set_4_B, .set_4_C, .set_4_D, .set_4_E, .set_4_H, .set_4_L, .set_4_atHL, .set_4_A,
     .set_5_B, .set_5_C, .set_5_D, .set_5_E, .set_5_H, .set_5_L, .set_5_atHL, .set_5_A]

/-- Row Fx of the map of R131. -/
def cbRowF : Vector Instr 16 :=
  #v[.set_6_B, .set_6_C, .set_6_D, .set_6_E, .set_6_H, .set_6_L, .set_6_atHL, .set_6_A,
     .set_7_B, .set_7_C, .set_7_D, .set_7_E, .set_7_H, .set_7_L, .set_7_atHL, .set_7_A]

/-- The map of R131: the row is the high nibble of the sub-opcode, the column its low nibble. -/
def cbMap : Vector (Vector Instr 16) 16 :=
  #v[cbRow0, cbRow1, cbRow2, cbRow3, cbRow4, cbRow5, cbRow6, cbRow7,
     cbRow8, cbRow9, cbRowA, cbRowB, cbRowC, cbRowD, cbRowE, cbRowF]

/-- `TCB[s]` (R131, R177). -/
def decodeCb (s : Byte) : Instr := cell cbMap s

/-- The prefix descriptor resolved through the CB table (R177): PREFIX_CB with sub-opcode `s` is `TCB[s]`, and every
other instruction is itself (log 8). -/
def Instr.resolve : Instr → Instr
  | .prefix_CB s => decodeCb s
  | i => i

/-! ## The operation and operands of each instruction (the columns of spec/opcode_table.json). -/

/-- What each mnemonic stands for, as an operation with operands. -/
def Instr.form : Instr → Form
  | .nop => .nop
  | .ld_BC_nn nn => .ldRpNn (.pair .bc) nn
  | .ld_atBC_A => .ldIndA .bc
  | .inc_BC => .inc16 (.pair .bc)
  | .inc_B => .inc8 (.reg .b)
  | .dec_B => .dec8 (.reg .b)
  | .ld_B_n n => .ldRegN .b n
  | .rlca => .accRot .rlca
  | .ld_atnn_SP nn => .ldNnSp nn
  | .add_HL_BC => .addHl (.pair .bc)
  | .ld_A_atBC => .ldAInd .bc
  | .dec_BC => .dec16 (.pair .bc)
  | .inc_C => .inc8 (.reg .c)
  | .dec_C => .dec8 (.reg .c)
  | .ld_C_n n => .ldRegN .c n
  | .rrca => .accRot .rrca
  | .stop n => .stop n
  | .ld_DE_nn nn => .ldRpNn (.pair .de) nn
  | .ld_atDE_A => .ldIndA .de
  | .inc_DE => .inc16 (.pair .de)
  | .inc_D => .inc8 (.reg .d)
  | .dec_D => .dec8 (.reg .d)
  | .ld_D_n n => .ldRegN .d n
  | .rla => .accRot .rla
  | .jr_e e => .jr e
  | .add_HL_DE => .addHl (.pair .de)
  | .ld_A_atDE => .ldAInd .de
  | .dec_DE => .dec16 (.pair .de)
  | .inc_E => .inc8 (.reg .e)
  | .dec_E => .dec8 (.reg .e)
  | .ld_E_n n => .ldRegN .e n
  | .rra => .accRot .rra
  | .jr_NZ_e e => .jrCc .nz e
  | .ld_HL_nn nn => .ldRpNn (.pair .hl) nn
  | .ld_atHLinc_A => .ldHlStepA .inc
  | .inc_HL => .inc16 (.pair .hl)
  | .inc_H => .inc8 (.reg .h)
  | .dec_H => .dec8 (.reg .h)
  | .ld_H_n n => .ldRegN .h n
  | .daa => .daa
  | .jr_Z_e e => .jrCc .z e
  | .add_HL_HL => .addHl (.pair .hl)
  | .ld_A_atHLinc => .ldAHlStep .inc
  | .dec_HL => .dec16 (.pair .hl)
  | .inc_L => .inc8 (.reg .l)
  | .dec_L => .dec8 (.reg .l)
  | .ld_L_n n => .ldRegN .l n
  | .cpl => .cpl
  | .jr_NC_e e => .jrCc .nc e
  | .ld_SP_nn nn => .ldRpNn .sp nn
  | .ld_atHLdec_A => .ldHlStepA .dec
  | .inc_SP => .inc16 .sp
  | .inc_atHL => .inc8 .atHL
  | .dec_atHL => .dec8 .atHL
  | .ld_atHL_n n => .ldHlN n
  | .scf => .scf
  | .jr_C_e e => .jrCc .c e
  | .add_HL_SP => .addHl .sp
  | .ld_A_atHLdec => .ldAHlStep .dec
  | .dec_SP => .dec16 .sp
  | .inc_A => .inc8 (.reg .a)
  | .dec_A => .dec8 (.reg .a)
  | .ld_A_n n => .ldRegN .a n
  | .ccf => .ccf
  | .ld_B_B => .ldRegReg .b .b
  | .ld_B_C => .ldRegReg .b .c
  | .ld_B_D => .ldRegReg .b .d
  | .ld_B_E => .ldRegReg .b .e
  | .ld_B_H => .ldRegReg .b .h
  | .ld_B_L => .ldRegReg .b .l
  | .ld_B_atHL => .ldRegHl .b
  | .ld_B_A => .ldRegReg .b .a
  | .ld_C_B => .ldRegReg .c .b
  | .ld_C_C => .ldRegReg .c .c
  | .ld_C_D => .ldRegReg .c .d
  | .ld_C_E => .ldRegReg .c .e
  | .ld_C_H => .ldRegReg .c .h
  | .ld_C_L => .ldRegReg .c .l
  | .ld_C_atHL => .ldRegHl .c
  | .ld_C_A => .ldRegReg .c .a
  | .ld_D_B => .ldRegReg .d .b
  | .ld_D_C => .ldRegReg .d .c
  | .ld_D_D => .ldRegReg .d .d
  | .ld_D_E => .ldRegReg .d .e
  | .ld_D_H => .ldRegReg .d .h
  | .ld_D_L => .ldRegReg .d .l
  | .ld_D_atHL => .ldRegHl .d
  | .ld_D_A => .ldRegReg .d .a
  | .ld_E_B => .ldRegReg .e .b
  | .ld_E_C => .ldRegReg .e .c
  | .ld_E_D => .ldRegReg .e .d
  | .ld_E_E => .ldRegReg .e .e
  | .ld_E_H => .ldRegReg .e .h
  | .ld_E_L => .ldRegReg .e .l
  | .ld_E_atHL => .ldRegHl .e
  | .ld_E_A => .ldRegReg .e .a
  | .ld_H_B => .ldRegReg .h .b
  | .ld_H_C => .ldRegReg .h .c
  | .ld_H_D => .ldRegReg .h .d
  | .ld_H_E => .ldRegReg .h .e
  | .ld_H_H => .ldRegReg .h .h
  | .ld_H_L => .ldRegReg .h .l
  | .ld_H_atHL => .ldRegHl .h
  | .ld_H_A => .ldRegReg .h .a
  | .ld_L_B => .ldRegReg .l .b
  | .ld_L_C => .ldRegReg .l .c
  | .ld_L_D => .ldRegReg .l .d
  | .ld_L_E => .ldRegReg .l .e
  | .ld_L_H => .ldRegReg .l .h
  | .ld_L_L => .ldRegReg .l .l
  | .ld_L_atHL => .ldRegHl .l
  | .ld_L_A => .ldRegReg .l .a
  | .ld_atHL_B => .ldHlReg .b
  | .ld_atHL_C => .ldHlReg .c
  | .ld_atHL_D => .ldHlReg .d
  | .ld_atHL_E => .ldHlReg .e
  | .ld_atHL_H => .ldHlReg .h
  | .ld_atHL_L => .ldHlReg .l
  | .halt => .halt
  | .ld_atHL_A => .ldHlReg .a
  | .ld_A_B => .ldRegReg .a .b
  | .ld_A_C => .ldRegReg .a .c
  | .ld_A_D => .ldRegReg .a .d
  | .ld_A_E => .ldRegReg .a .e
  | .ld_A_H => .ldRegReg .a .h
  | .ld_A_L => .ldRegReg .a .l
  | .ld_A_atHL => .ldRegHl .a
  | .ld_A_A => .ldRegReg .a .a
  | .add_A_B => .alu .add (.opd (.reg .b))
  | .add_A_C => .alu .add (.opd (.reg .c))
  | .add_A_D => .alu .add (.opd (.reg .d))
  | .add_A_E => .alu .add (.opd (.reg .e))
  | .add_A_H => .alu .add (.opd (.reg .h))
  | .add_A_L => .alu .add (.opd (.reg .l))
  | .add_A_atHL => .alu .add (.opd .atHL)
  | .add_A_A => .alu .add (.opd (.reg .a))
  | .adc_A_B => .alu .adc (.opd (.reg .b))
  | .adc_A_C => .alu .adc (.opd (.reg .c))
  | .adc_A_D => .alu .adc (.opd (.reg .d))
  | .adc_A_E => .alu .adc (.opd (.reg .e))
  | .adc_A_H => .alu .adc (.opd (.reg .h))
  | .adc_A_L => .alu .adc (.opd (.reg .l))
  | .adc_A_atHL => .alu .adc (.opd .atHL)
  | .adc_A_A => .alu .adc (.opd (.reg .a))
  | .sub_B => .alu .sub (.opd (.reg .b))
  | .sub_C => .alu .sub (.opd (.reg .c))
  | .sub_D => .alu .sub (.opd (.reg .d))
  | .sub_E => .alu .sub (.opd (.reg .e))
  | .sub_H => .alu .sub (.opd (.reg .h))
  | .sub_L => .alu .sub (.opd (.reg .l))
  | .sub_atHL => .alu .sub (.opd .atHL)
  | .sub_A => .alu .sub (.opd (.reg .a))
  | .sbc_A_B => .alu .sbc (.opd (.reg .b))
  | .sbc_A_C => .alu .sbc (.opd (.reg .c))
  | .sbc_A_D => .alu .sbc (.opd (.reg .d))
  | .sbc_A_E => .alu .sbc (.opd (.reg .e))
  | .sbc_A_H => .alu .sbc (.opd (.reg .h))
  | .sbc_A_L => .alu .sbc (.opd (.reg .l))
  | .sbc_A_atHL => .alu .sbc (.opd .atHL)
  | .sbc_A_A => .alu .sbc (.opd (.reg .a))
  | .and_B => .alu .and (.opd (.reg .b))
  | .and_C => .alu .and (.opd (.reg .c))
  | .and_D => .alu .and (.opd (.reg .d))
  | .and_E => .alu .and (.opd (.reg .e))
  | .and_H => .alu .and (.opd (.reg .h))
  | .and_L => .alu .and (.opd (.reg .l))
  | .and_atHL => .alu .and (.opd .atHL)
  | .and_A => .alu .and (.opd (.reg .a))
  | .xor_B => .alu .xor (.opd (.reg .b))
  | .xor_C => .alu .xor (.opd (.reg .c))
  | .xor_D => .alu .xor (.opd (.reg .d))
  | .xor_E => .alu .xor (.opd (.reg .e))
  | .xor_H => .alu .xor (.opd (.reg .h))
  | .xor_L => .alu .xor (.opd (.reg .l))
  | .xor_atHL => .alu .xor (.opd .atHL)
  | .xor_A => .alu .xor (.opd (.reg .a))
  | .or_B => .alu .or (.opd (.reg .b))
  | .or_C => .alu .or (.opd (.reg .c))
  | .or_D => .alu .or (.opd (.reg .d))
  | .or_E => .alu .or (.opd (.reg .e))
  | .or_H => .alu .or (.opd (.reg .h))
  | .or_L => .alu .or (.opd (.reg .l))
  | .or_atHL => .alu .or (.opd .atHL)
  | .or_A => .alu .or (.opd (.reg .a))
  | .cp_B => .alu .cp (.opd (.reg .b))
  | .cp_C => .alu .cp (.opd (.reg .c))
  | .cp_D => .alu .cp (.opd (.reg .d))
  | .cp_E => .alu .cp (.opd (.reg .e))
  | .cp_H => .alu .cp (.opd (.reg .h))
  | .cp_L => .alu .cp (.opd (.reg .l))
  | .cp_atHL => .alu .cp (.opd .atHL)
  | .cp_A => .alu .cp (.opd (.reg .a))
  | .ret_NZ => .retCc .nz
  | .pop_BC => .pop (.pair .bc)
  | .jp_NZ_nn nn => .jpCc .nz nn
  | .jp_nn nn => .jp nn
  | .call_NZ_nn nn => .callCc .nz nn
  | .push_BC => .push (.pair .bc)
  | .add_A_n n => .alu .add (.imm n)
  | .rst_00 => .rst 0
  | .ret_Z => .retCc .z
  | .ret => .ret
  | .jp_Z_nn nn => .jpCc .z nn
  | .prefix_CB sub => .prefixCb sub
  | .call_Z_nn nn => .callCc .z nn
  | .call_nn nn => .call nn
  | .adc_A_n n => .alu .adc (.imm n)
  | .rst_08 => .rst 1
  | .ret_NC => .retCc .nc
  | .pop_DE => .pop (.pair .de)
  | .jp_NC_nn nn => .jpCc .nc nn
  | .illegal op => .illegal op
  | .call_NC_nn nn => .callCc .nc nn
  | .push_DE => .push (.pair .de)
  | .sub_n n => .alu .sub (.imm n)
  | .rst_10 => .rst 2
  | .ret_C => .retCc .c
  | .reti => .reti
  | .jp_C_nn nn => .jpCc .c nn
  | .call_C_nn nn => .callCc .c nn
  | .sbc_A_n n => .alu .sbc (.imm n)
  | .rst_18 => .rst 3
  | .ldh_atn_A n => .ldhNA n
  | .pop_HL => .pop (.pair .hl)
  | .ld_atC_A => .ldCA
  | .push_HL => .push (.pair .hl)
  | .and_n n => .alu .and (.imm n)
  | .rst_20 => .rst 4
  | .add_SP_e e => .addSp e
  | .jp_HL => .jpHl
  | .ld_atnn_A nn => .ldNnA nn
  | .xor_n n => .alu .xor (.imm n)
  | .rst_28 => .rst 5
  | .ldh_A_atn n => .ldhAN n
  | .pop_AF => .pop .af
  | .ld_A_atC => .ldAC
  | .di => .di
  | .push_AF => .push .af
  | .or_n n => .alu .or (.imm n)
  | .rst_30 => .rst 6
  | .ld_HL_SPe e => .ldHlSp e
  | .ld_SP_HL => .ldSpHl
  | .ld_A_atnn nn => .ldANn nn
  | .ei => .ei
  | .cp_n n => .alu .cp (.imm n)
  | .rst_38 => .rst 7
  | .rlc_B => .cbRot .rlc (.reg .b)
  | .rlc_C => .cbRot .rlc (.reg .c)
  | .rlc_D => .cbRot .rlc (.reg .d)
  | .rlc_E => .cbRot .rlc (.reg .e)
  | .rlc_H => .cbRot .rlc (.reg .h)
  | .rlc_L => .cbRot .rlc (.reg .l)
  | .rlc_atHL => .cbRot .rlc .atHL
  | .rlc_A => .cbRot .rlc (.reg .a)
  | .rrc_B => .cbRot .rrc (.reg .b)
  | .rrc_C => .cbRot .rrc (.reg .c)
  | .rrc_D => .cbRot .rrc (.reg .d)
  | .rrc_E => .cbRot .rrc (.reg .e)
  | .rrc_H => .cbRot .rrc (.reg .h)
  | .rrc_L => .cbRot .rrc (.reg .l)
  | .rrc_atHL => .cbRot .rrc .atHL
  | .rrc_A => .cbRot .rrc (.reg .a)
  | .rl_B => .cbRot .rl (.reg .b)
  | .rl_C => .cbRot .rl (.reg .c)
  | .rl_D => .cbRot .rl (.reg .d)
  | .rl_E => .cbRot .rl (.reg .e)
  | .rl_H => .cbRot .rl (.reg .h)
  | .rl_L => .cbRot .rl (.reg .l)
  | .rl_atHL => .cbRot .rl .atHL
  | .rl_A => .cbRot .rl (.reg .a)
  | .rr_B => .cbRot .rr (.reg .b)
  | .rr_C => .cbRot .rr (.reg .c)
  | .rr_D => .cbRot .rr (.reg .d)
  | .rr_E => .cbRot .rr (.reg .e)
  | .rr_H => .cbRot .rr (.reg .h)
  | .rr_L => .cbRot .rr (.reg .l)
  | .rr_atHL => .cbRot .rr .atHL
  | .rr_A => .cbRot .rr (.reg .a)
  | .sla_B => .cbRot .sla (.reg .b)
  | .sla_C => .cbRot .sla (.reg .c)
  | .sla_D => .cbRot .sla (.reg .d)
  | .sla_E => .cbRot .sla (.reg .e)
  | .sla_H => .cbRot .sla (.reg .h)
  | .sla_L => .cbRot .sla (.reg .l)
  | .sla_atHL => .cbRot .sla .atHL
  | .sla_A => .cbRot .sla (.reg .a)
  | .sra_B => .cbRot .sra (.reg .b)
  | .sra_C => .cbRot .sra (.reg .c)
  | .sra_D => .cbRot .sra (.reg .d)
  | .sra_E => .cbRot .sra (.reg .e)
  | .sra_H => .cbRot .sra (.reg .h)
  | .sra_L => .cbRot .sra (.reg .l)
  | .sra_atHL => .cbRot .sra .atHL
  | .sra_A => .cbRot .sra (.reg .a)
  | .swap_B => .cbRot .swap (.reg .b)
  | .swap_C => .cbRot .swap (.reg .c)
  | .swap_D => .cbRot .swap (.reg .d)
  | .swap_E => .cbRot .swap (.reg .e)
  | .swap_H => .cbRot .swap (.reg .h)
  | .swap_L => .cbRot .swap (.reg .l)
  | .swap_atHL => .cbRot .swap .atHL
  | .swap_A => .cbRot .swap (.reg .a)
  | .srl_B => .cbRot .srl (.reg .b)
  | .srl_C => .cbRot .srl (.reg .c)
  | .srl_D => .cbRot .srl (.reg .d)
  | .srl_E => .cbRot .srl (.reg .e)
  | .srl_H => .cbRot .srl (.reg .h)
  | .srl_L => .cbRot .srl (.reg .l)
  | .srl_atHL => .cbRot .srl .atHL
  | .srl_A => .cbRot .srl (.reg .a)
  | .bit_0_B => .bit 0 (.reg .b)
  | .bit_0_C => .bit 0 (.reg .c)
  | .bit_0_D => .bit 0 (.reg .d)
  | .bit_0_E => .bit 0 (.reg .e)
  | .bit_0_H => .bit 0 (.reg .h)
  | .bit_0_L => .bit 0 (.reg .l)
  | .bit_0_atHL => .bit 0 .atHL
  | .bit_0_A => .bit 0 (.reg .a)
  | .bit_1_B => .bit 1 (.reg .b)
  | .bit_1_C => .bit 1 (.reg .c)
  | .bit_1_D => .bit 1 (.reg .d)
  | .bit_1_E => .bit 1 (.reg .e)
  | .bit_1_H => .bit 1 (.reg .h)
  | .bit_1_L => .bit 1 (.reg .l)
  | .bit_1_atHL => .bit 1 .atHL
  | .bit_1_A => .bit 1 (.reg .a)
  | .bit_2_B => .bit 2 (.reg .b)
  | .bit_2_C => .bit 2 (.reg .c)
  | .bit_2_D => .bit 2 (.reg .d)
  | .bit_2_E => .bit 2 (.reg .e)
  | .bit_2_H => .bit 2 (.reg .h)
  | .bit_2_L => .bit 2 (.reg .l)
  | .bit_2_atHL => .bit 2 .atHL
  | .bit_2_A => .bit 2 (.reg .a)
  | .bit_3_B => .bit 3 (.reg .b)
  | .bit_3_C => .bit 3 (.reg .c)
  | .bit_3_D => .bit 3 (.reg .d)
  | .bit_3_E => .bit 3 (.reg .e)
  | .bit_3_H => .bit 3 (.reg .h)
  | .bit_3_L => .bit 3 (.reg .l)
  | .bit_3_atHL => .bit 3 .atHL
  | .bit_3_A => .bit 3 (.reg .a)
  | .bit_4_B => .bit 4 (.reg .b)
  | .bit_4_C => .bit 4 (.reg .c)
  | .bit_4_D => .bit 4 (.reg .d)
  | .bit_4_E => .bit 4 (.reg .e)
  | .bit_4_H => .bit 4 (.reg .h)
  | .bit_4_L => .bit 4 (.reg .l)
  | .bit_4_atHL => .bit 4 .atHL
  | .bit_4_A => .bit 4 (.reg .a)
  | .bit_5_B => .bit 5 (.reg .b)
  | .bit_5_C => .bit 5 (.reg .c)
  | .bit_5_D => .bit 5 (.reg .d)
  | .bit_5_E => .bit 5 (.reg .e)
  | .bit_5_H => .bit 5 (.reg .h)
  | .bit_5_L => .bit 5 (.reg .l)
  | .bit_5_atHL => .bit 5 .atHL
  | .bit_5_A => .bit 5 (.reg .a)
  | .bit_6_B => .bit 6 (.reg .b)
  | .bit_6_C => .bit 6 (.reg .c)
  | .bit_6_D => .bit 6 (.reg .d)
  | .bit_6_E => .bit 6 (.reg .e)
  | .bit_6_H => .bit 6 (.reg .h)
  | .bit_6_L => .bit 6 (.reg .l)
  | .bit_6_atHL => .bit 6 .atHL
  | .bit_6_A => .bit 6 (.reg .a)
  | .bit_7_B => .bit 7 (.reg .b)
  | .bit_7_C => .bit 7 (.reg .c)
  | .bit_7_D => .bit 7 (.reg .d)
  | .bit_7_E => .bit 7 (.reg .e)
  | .bit_7_H => .bit 7 (.reg .h)
  | .bit_7_L => .bit 7 (.reg .l)
  | .bit_7_atHL => .bit 7 .atHL
  | .bit_7_A => .bit 7 (.reg .a)
  | .res_0_B => .res 0 (.reg .b)
  | .res_0_C => .res 0 (.reg .c)
  | .res_0_D => .res 0 (.reg .d)
  | .res_0_E => .res 0 (.reg .e)
  | .res_0_H => .res 0 (.reg .h)
  | .res_0_L => .res 0 (.reg .l)
  | .res_0_atHL => .res 0 .atHL
  | .res_0_A => .res 0 (.reg .a)
  | .res_1_B => .res 1 (.reg .b)
  | .res_1_C => .res 1 (.reg .c)
  | .res_1_D => .res 1 (.reg .d)
  | .res_1_E => .res 1 (.reg .e)
  | .res_1_H => .res 1 (.reg .h)
  | .res_1_L => .res 1 (.reg .l)
  | .res_1_atHL => .res 1 .atHL
  | .res_1_A => .res 1 (.reg .a)
  | .res_2_B => .res 2 (.reg .b)
  | .res_2_C => .res 2 (.reg .c)
  | .res_2_D => .res 2 (.reg .d)
  | .res_2_E => .res 2 (.reg .e)
  | .res_2_H => .res 2 (.reg .h)
  | .res_2_L => .res 2 (.reg .l)
  | .res_2_atHL => .res 2 .atHL
  | .res_2_A => .res 2 (.reg .a)
  | .res_3_B => .res 3 (.reg .b)
  | .res_3_C => .res 3 (.reg .c)
  | .res_3_D => .res 3 (.reg .d)
  | .res_3_E => .res 3 (.reg .e)
  | .res_3_H => .res 3 (.reg .h)
  | .res_3_L => .res 3 (.reg .l)
  | .res_3_atHL => .res 3 .atHL
  | .res_3_A => .res 3 (.reg .a)
  | .res_4_B => .res 4 (.reg .b)
  | .res_4_C => .res 4 (.reg .c)
  | .res_4_D => .res 4 (.reg .d)
  | .res_4_E => .res 4 (.reg .e)
  | .res_4_H => .res 4 (.reg .h)
  | .res_4_L => .res 4 (.reg .l)
  | .res_4_atHL => .res 4 .atHL
  | .res_4_A => .res 4 (.reg .a)
  | .res_5_B => .res 5 (.reg .b)
  | .res_5_C => .res 5 (.reg .c)
  | .res_5_D => .res 5 (.reg .d)
  | .res_5_E => .res 5 (.reg .e)
  | .res_5_H => .res 5 (.reg .h)
  | .res_5_L => .res 5 (.reg .l)
  | .res_5_atHL => .res 5 .atHL
  | .res_5_A => .res 5 (.reg .a)
  | .res_6_B => .res 6 (.reg .b)
  | .res_6_C => .res 6 (.reg .c)
  | .res_6_D => .res 6 (.reg .d)
  | .res_6_E => .res 6 (.reg .e)
  | .res_6_H => .res 6 (.reg .h)
  | .res_6_L => .res 6 (.reg .l)
  | .res_6_atHL => .res 6 .atHL
  | .res_6_A => .res 6 (.reg .a)
  | .res_7_B => .res 7 (.reg .b)
  | .res_7_C => .res 7 (.reg .c)
  | .res_7_D => .res 7 (.reg .d)
  | .res_7_E => .res 7 (.reg .e)
  | .res_7_H => .res 7 (.reg .h)
  | .res_7_L => .res 7 (.reg .l)
  | .res_7_atHL => .res 7 .atHL
  | .res_7_A => .res 7 (.reg .a)
  | .set_0_B => .set 0 (.reg .b)
  | .set_0_C => .set 0 (.reg .c)
  | .set_0_D => .set 0 (.reg .d)
  | .set_0_E => .set 0 (.reg .e)
  | .set_0_H => .set 0 (.reg .h)
  | .set_0_L => .set 0 (.reg .l)
  | .set_0_atHL => .set 0 .atHL
  | .set_0_A => .set 0 (.reg .a)
  | .set_1_B => .set 1 (.reg .b)
  | .set_1_C => .set 1 (.reg .c)
  | .set_1_D => .set 1 (.reg .d)
  | .set_1_E => .set 1 (.reg .e)
  | .set_1_H => .set 1 (.reg .h)
  | .set_1_L => .set 1 (.reg .l)
  | .set_1_atHL => .set 1 .atHL
  | .set_1_A => .set 1 (.reg .a)
  | .set_2_B => .set 2 (.reg .b)
  | .set_2_C => .set 2 (.reg .c)
  | .set_2_D => .set 2 (.reg .d)
  | .set_2_E => .set 2 (.reg .e)
  | .set_2_H => .set 2 (.reg .h)
  | .set_2_L => .set 2 (.reg .l)
  | .set_2_atHL => .set 2 .atHL
  | .set_2_A => .set 2 (.reg .a)
  | .set_3_B => .set 3 (.reg .b)
  | .set_3_C => .set 3 (.reg .c)
  | .set_3_D => .set 3 (.reg .d)
  | .set_3_E => .set 3 (.reg .e)
  | .set_3_H => .set 3 (.reg .h)
  | .set_3_L => .set 3 (.reg .l)
  | .set_3_atHL => .set 3 .atHL
  | .set_3_A => .set 3 (.reg .a)
  | .set_4_B => .set 4 (.reg .b)
  | .set_4_C => .set 4 (.reg .c)
  | .set_4_D => .set 4 (.reg .d)
  | .set_4_E => .set 4 (.reg .e)
  | .set_4_H => .set 4 (.reg .h)
  | .set_4_L => .set 4 (.reg .l)
  | .set_4_atHL => .set 4 .atHL
  | .set_4_A => .set 4 (.reg .a)
  | .set_5_B => .set 5 (.reg .b)
  | .set_5_C => .set 5 (.reg .c)
  | .set_5_D => .set 5 (.reg .d)
  | .set_5_E => .set 5 (.reg .e)
  | .set_5_H => .set 5 (.reg .h)
  | .set_5_L => .set 5 (.reg .l)
  | .set_5_atHL => .set 5 .atHL
  | .set_5_A => .set 5 (.reg .a)
  | .set_6_B => .set 6 (.reg .b)
  | .set_6_C => .set 6 (.reg .c)
  | .set_6_D => .set 6 (.reg .d)
  | .set_6_E => .set 6 (.reg .e)
  | .set_6_H => .set 6 (.reg .h)
  | .set_6_L => .set 6 (.reg .l)
  | .set_6_atHL => .set 6 .atHL
  | .set_6_A => .set 6 (.reg .a)
  | .set_7_B => .set 7 (.reg .b)
  | .set_7_C => .set 7 (.reg .c)
  | .set_7_D => .set 7 (.reg .d)
  | .set_7_E => .set 7 (.reg .e)
  | .set_7_H => .set 7 (.reg .h)
  | .set_7_L => .set 7 (.reg .l)
  | .set_7_atHL => .set 7 .atHL
  | .set_7_A => .set 7 (.reg .a)

/-! ## Field codes and the encoder. -/

/-- The register code of R124 (code 6 is the byte at HL, `Operand8.code`). -/
def Reg8.code : Reg8 → Nat
  | .b => 0 | .c => 1 | .d => 2 | .e => 3 | .h => 4 | .l => 5 | .a => 7

/-- The operand code of R124. -/
def Operand8.code : Operand8 → Nat
  | .reg r => r.code
  | .atHL => 6

/-- The pair codes of R125. -/
def Pair.code : Pair → Nat
  | .bc => 0 | .de => 1 | .hl => 2

/-- `rp` of R125. -/
def Rp.code : Rp → Nat
  | .pair p => p.code
  | .sp => 3

/-- `rp2` of R125. -/
def Rp2.code : Rp2 → Nat
  | .pair p => p.code
  | .af => 3

/-- The condition code of R126. -/
def Cond.code : Cond → Nat
  | .nz => 0 | .z => 1 | .nc => 2 | .c => 3

/-- The ALU operation code of R127. -/
def AluOp.code : AluOp → Nat
  | .add => 0 | .adc => 1 | .sub => 2 | .sbc => 3 | .and => 4 | .xor => 5 | .or => 6 | .cp => 7

/-- The y field of the accumulator rotates (R122; R321 to R324). -/
def AccRot.code : AccRot → Nat
  | .rlca => 0 | .rrca => 1 | .rla => 2 | .rra => 3

/-- The y field of the CB rotates, shifts and SWAP (R128). -/
def CbRot.code : CbRot → Nat
  | .rlc => 0 | .rrc => 1 | .rl => 2 | .rr => 3 | .sla => 4 | .sra => 5 | .swap => 6 | .srl => 7

/-- The byte with fields `x = op[7:6]`, `y = op[5:3]`, `z = op[2:0]` (R122). -/
def opByte (x y z : Nat) : Byte := BitVec.ofNat 8 (64 * x + 8 * y + z)

/-- Format `nn16` (R121): the opcode, then nn little-endian. -/
def nnBytes (op : Byte) (nn : Word) : List Byte := [op, lo8 nn, hi8 nn]

/-- The bytes of an operation, from the field laws R121 to R129 and the encodings the instruction rules print.
STOP's second byte is written as it was read (R463). -/
def Form.encode : Form → List Byte
  | .jp nn => nnBytes 0xC3 nn
  | .jpCc cc nn => nnBytes (opByte 3 cc.code 2) nn
  | .jr e => [0x18, e]
  | .jrCc cc e => [opByte 0 (4 + cc.code) 0, e]
  | .jpHl => [0xE9]
  | .call nn => nnBytes 0xCD nn
  | .callCc cc nn => nnBytes (opByte 3 cc.code 4) nn
  | .ret => [0xC9]
  | .retCc cc => [opByte 3 cc.code 0]
  | .reti => [0xD9]
  | .rst y => [opByte 3 y.val 7]
  | .alu op (.opd o) => [opByte 2 op.code o.code]
  | .alu op (.imm n) => [opByte 3 op.code 6, n]
  | .inc8 o => [opByte 0 o.code 4]
  | .dec8 o => [opByte 0 o.code 5]
  | .daa => [0x27]
  | .cpl => [0x2F]
  | .scf => [0x37]
  | .ccf => [0x3F]
  | .accRot k => [opByte 0 k.code 7]
  | .prefixCb s => [0xCB, s]
  | .cbRot k o => [0xCB, opByte 0 k.code o.code]
  | .bit b o => [0xCB, opByte 1 b.val o.code]
  | .res b o => [0xCB, opByte 2 b.val o.code]
  | .set b o => [0xCB, opByte 3 b.val o.code]
  | .ldRegReg dst src => [opByte 1 dst.code src.code]
  | .ldRegHl dst => [opByte 1 dst.code 6]
  | .ldHlReg src => [opByte 1 6 src.code]
  | .ldRegN dst n => [opByte 0 dst.code 6, n]
  | .ldHlN n => [0x36, n]
  | .ldAInd .bc => [0x0A]
  | .ldAInd .de => [0x1A]
  | .ldIndA .bc => [0x02]
  | .ldIndA .de => [0x12]
  | .ldANn nn => nnBytes 0xFA nn
  | .ldNnA nn => nnBytes 0xEA nn
  | .ldhNA n => [0xE0, n]
  | .ldhAN n => [0xF0, n]
  | .ldCA => [0xE2]
  | .ldAC => [0xF2]
  | .ldHlStepA .inc => [0x22]
  | .ldHlStepA .dec => [0x32]
  | .ldAHlStep .inc => [0x2A]
  | .ldAHlStep .dec => [0x3A]
  | .ldRpNn rp nn => nnBytes (opByte 0 (2 * rp.code) 1) nn
  | .ldSpHl => [0xF9]
  | .ldNnSp nn => nnBytes 0x08 nn
  | .push rp => [opByte 3 (2 * rp.code) 5]
  | .pop rp => [opByte 3 (2 * rp.code) 1]
  | .inc16 rp => [opByte 0 (2 * rp.code) 3]
  | .dec16 rp => [opByte 0 (2 * rp.code + 1) 3]
  | .addHl rp => [opByte 0 (2 * rp.code + 1) 1]
  | .addSp e => [0xE8, e]
  | .ldHlSp e => [0xF8, e]
  | .nop => [0x00]
  | .illegal op => [op]
  | .halt => [0x76]
  | .stop n => [0x10, n]
  | .di => [0xF3]
  | .ei => [0xFB]

/-- The bytes of an instruction, the first at the lowest address. -/
def encode (i : Instr) : List Byte := i.form.encode

/-- The length in bytes, opcode included (R120, R121): 1 for format `op`, 2 for `n8`, `e8`, `cb` and `stop`, 3 for
`nn16`. -/
def Form.length : Form → Nat
  | .jp _ | .jpCc _ _ | .call _ | .callCc _ _ | .ldANn _ | .ldNnA _ | .ldRpNn _ _ | .ldNnSp _ => 3
  | .jr _ | .jrCc _ _ | .alu _ (.imm _) | .ldRegN _ _ | .ldHlN _ | .ldhNA _ | .ldhAN _ | .addSp _ | .ldHlSp _
  | .prefixCb _ | .cbRot _ _ | .bit _ _ | .res _ _ | .set _ _ | .stop _ => 2
  | .jpHl | .ret | .retCc _ | .reti | .rst _ | .alu _ (.opd _) | .inc8 _ | .dec8 _ | .daa | .cpl | .scf | .ccf
  | .accRot _ | .ldRegReg _ _ | .ldRegHl _ | .ldHlReg _ | .ldAInd _ | .ldIndA _ | .ldCA | .ldAC | .ldHlStepA _
  | .ldAHlStep _ | .ldSpHl | .push _ | .pop _ | .inc16 _ | .dec16 _ | .addHl _ | .nop | .illegal _ | .halt | .di
  | .ei => 1

/-- The length of an instruction in bytes (R120, R136). -/
def Instr.length (i : Instr) : Nat := i.form.length

/-! ## The decoder. -/

/-- Why a list of bytes is not decoded. -/
inductive DecodeError where
  /-- No byte at all. -/
  | noBytes
  /-- Fewer bytes than the instruction of opcode `op` has (R136). -/
  | truncated (op : Byte)
deriving DecidableEq, Repr

/-- The instruction at the head of a list of bytes, with the bytes after it. Total on any bytes; an illegal byte
decodes to ILLEGAL, which has no descriptor (R132), and 0xCB is resolved through the CB map (R177). -/
def decode : List Byte → Except DecodeError (Instr × List Byte)
  | [] => .error .noBytes
  | op :: rest =>
    let i := decodePrimary op (rest.getD 0 0) (rest.getD 1 0)
    if i.length ≤ rest.length + 1 then .ok (i.resolve, (op :: rest).drop i.length) else .error (.truncated op)

/-! ## Words numbered as spec/opcode_table.json numbers them. -/

/-- The three bytes, the lowest address first, of an instruction whose bits are `w` as the table numbers them. The
table gives an operand-carrying row its opcode in bits 7..0, and a CB row the number 0xCB00 + sub-opcode, with 0xCB in
bits 15..8: so a 16-bit word with 0xCB in bits 15..8 is that CB row, and every other word has its first byte lowest
(log 7). The bits above `nbits` are 0. -/
def tableBytes (nbits w : Nat) : List Byte :=
  if nbits = 16 ∧ w / 256 % 256 = 0xCB then [0xCB, BitVec.ofNat 8 w, 0]
  else
    let v := w % 2 ^ nbits
    [BitVec.ofNat 8 v, BitVec.ofNat 8 (v / 256), BitVec.ofNat 8 (v / 65536)]

/-- The instruction the decoder reads from the bits `w` of a table row of `nbits` bits. A word of at most 8 bits is a
row of the primary table, which is keyed on the first byte alone (R177): 0xCB alone is the row PREFIX_CB (log 8). -/
def decodeTableWord (nbits w : Nat) : Option Instr :=
  match tableBytes nbits w with
  | [op, b1, b2] =>
    if nbits ≤ 8 then some (decodePrimary op b1 b2)
    else
      match decode [op, b1, b2] with
      | .ok (i, _) => some i
      | .error _ => none
  | _ => none

end Sys2Proof
end

