-- ==== Sys2Proof/Machine/Reads.lean ====
section
/-!
DEFINITION. Which registers and flags an execute action reads, in the order of its pseudocode: what `UNDEF_READ = FAULT`
checks (10_state.md R49, R62; 40_dispatch.md R180). Within one line of pseudocode the spec orders nothing: there the
arguments are read left to right, a pair high half first and F from bit 7 down (DESIGN CHOICE, log 9). A part that is only
read after the instruction wrote it is not listed.
-/

namespace Sys2Proof.Machine

/-- Both halves of a pair (R49). -/
def pairReads (p : Pair) : List Named := [.reg (Pair.hiReg p), .reg (Pair.loReg p)]

/-- The parts of `rp` (R125). -/
def rpReads : Rp → List Named
  | .pair p => pairReads p
  | .sp => [.sp]

/-- The parts of `rp2` (R125): AF reads A and all four flags (R34, R44). -/
def rp2Reads : Rp2 → List Named
  | .pair p => pairReads p
  | .af => [.reg .a, .fZ, .fN, .fH, .fC]

/-- What `get8` reads (R14). -/
def operandReads : Operand8 → List Named
  | .reg r => [.reg r]
  | .atHL => pairReads .hl

/-- What the second operand of an ALU operation reads. -/
def srcReads : AluSrc → List Named
  | .opd o => operandReads o
  | .imm _ => []

/-- The flag a condition reads (R44, R200). -/
def condReads : Cond → List Named
  | .nz | .z => [.fZ]
  | .nc | .c => [.fC]

/-- The carry where the operation reads it (R44). -/
def aluCarryReads : AluOp → List Named
  | .adc | .sbc => [.fC]
  | .add | .sub | .and | .xor | .or | .cp => []

/-- The carry where the accumulator rotate reads it (R44). -/
def accCarryReads : AccRot → List Named
  | .rla | .rra => [.fC]
  | .rlca | .rrca => []

/-- The carry where the CB operation reads it (R44). -/
def cbCarryReads : CbRot → List Named
  | .rl | .rr => [.fC]
  | .rlc | .rrc | .sla | .sra | .swap | .srl => []

/-- The operand a register code selects (R124), as what it reads. -/
def codeReads : Nat → List Named
  | 0 => [.reg .b] | 1 => [.reg .c] | 2 => [.reg .d] | 3 => [.reg .e] | 4 => [.reg .h] | 5 => [.reg .l]
  | 6 => pairReads .hl
  | _ => [.reg .a]

/-- What `TCB[s]` reads: its operand, and fC for RL and RR (R128). -/
def cbSubReads (s : Byte) : List Named :=
  codeReads (s.toNat % 8) ++ (if s.toNat / 8 = 2 ∨ s.toNat / 8 = 3 then [.fC] else [])

/-- What an execute action reads in state `s`: line by line as its pseudocode, and within one line left to right. The spec
does not order the arguments of one call, so that A precedes fC in `rl(A, fC)` and `rr(A, fC)` (R323, R324), that A, the
operand and fC follow each other in `alu_add`, `alu_sub` and the like (R274 to R291, R240 to R248), that the operand
precedes fC in the CB forms RL and RR (R327, R328), and that an address precedes the byte stored there (R372, R377, R378,
R383) are the model's choice (DESIGN CHOICE, log 9). It shows only in the name that UndefinedRead reports when two are
unspecified. "Old fC read first" in R323 says that fC is read before it is written; it is not taken to order fC against A. -/
def formReads (f : Form) (s : State) : List Named :=
  match f with
  | .jp _ | .jr _ | .nop | .illegal _ | .halt | .stop _ | .di | .ei | .scf => []
  | .jpCc cc _ | .jrCc cc _ => condReads cc
  | .jpHl | .ldRegHl _ | .ldHlN _ | .ldAHlStep _ | .ldSpHl => pairReads .hl
  | .call _ | .ret | .reti | .rst _ | .ldNnSp _ | .pop _ | .addSp _ | .ldHlSp _ => [.sp]
  | .callCc cc _ | .retCc cc => condReads cc ++ (if s.cond cc then [.sp] else [])
  | .alu op src => .reg .a :: (srcReads src ++ aluCarryReads op)
  | .inc8 o | .dec8 o | .bit _ o | .res _ o | .set _ o => operandReads o
  | .daa => [.reg .a, .fN, .fC, .fH]
  | .cpl => [.reg .a]
  | .ccf => [.fC]
  | .accRot k => .reg .a :: accCarryReads k
  | .prefixCb sub => cbSubReads sub
  | .cbRot k o => operandReads o ++ cbCarryReads k
  | .ldRegReg _ src => [.reg src]
  | .ldHlReg src => pairReads .hl ++ [.reg src]
  | .ldRegN _ _ | .ldANn _ | .ldhAN _ | .ldRpNn _ _ => []
  | .ldAInd p => pairReads (Ind.pair p)
  | .ldIndA p => pairReads (Ind.pair p) ++ [.reg .a]
  | .ldNnA _ | .ldhNA _ => [.reg .a]
  | .ldCA => [.reg .c, .reg .a]
  | .ldAC => [.reg .c]
  | .ldHlStepA _ => pairReads .hl ++ [.reg .a]
  | .push rp => rp2Reads rp ++ [.sp]
  | .inc16 rp | .dec16 rp => rpReads rp
  | .addHl rp => rpReads rp ++ pairReads .hl

/-- The first of the named registers and flags that is still unspecified, under `UNDEF_READ = FAULT`; none under
`DRAW`, where every read returns the value held (R62). -/
def firstUnspecified (names : List Named) (s : State) : Option Named :=
  match s.config.undefRead with
  | .draw => none
  | .fault => names.find? (fun n => !s.specified.get n)

end Sys2Proof.Machine
end

