-- ==== Sys2Proof/Machine/Fetch.lean ====
section
/-!
DEFINITION. Everything `step` does around `exec` (40_dispatch.md R173): the fetch, the descriptor lookup under
`OPCODE_SET`, the check of `UNDEF_READ = FAULT` and the EI delay.
-/

namespace Sys2Proof.Machine

/-- The bytes that fetching from pc up answers, the longest instruction's worth, each after the reads before it (R121,
R94). The decoder uses as many of them as the instruction has and the meaning records the reads that it makes, so a byte
that no instruction fetches (one past its end, or the second byte of STOP) has no effect. -/
def State.window (s : State) : List Byte :=
  [s.peek s.pc, s.answer [.read s.pc] (s.pc + 1), s.answer [.read s.pc, .read (s.pc + 1)] (s.pc + 2)]

/-- The 24 bytes with descriptors under `OPCODE_SET = SOURCE_ONLY` (R133). -/
def sourceBytes : List Byte :=
  [0x18, 0x20, 0x28, 0x30, 0x38, 0xC3, 0xC2, 0xCA, 0xD2, 0xDA] ++
  [0xA8, 0xA9, 0xAA, 0xAB, 0xAC, 0xAD, 0xAF] ++
  [0xB8, 0xB9, 0xBA, 0xBB, 0xBC, 0xBD, 0xBF]

/-- Whether an opcode byte has a descriptor (R132, R133, R176). -/
def hasDescriptor : OpcodeSet → Byte → Bool
  | .full, op => !illegalBytes.contains op
  | .sourceOnly, op => sourceBytes.contains op

/-- The EI delay at the end of a step (R173, R465): `pend` is EI_PENDING as it was before the instruction. -/
def eiDelay (pend : Bool) (t : State) : State :=
  if pend && t.eiPending then (t.setIme true).setEiPending false else t

/-- The end of a step: the EI delay after an instruction that completes (R173). -/
def finishStep (pend : Bool) : Result → Result
  | .next t => .next (eiDelay pend t)
  | .fault r => .fault r
  | .refused r => .refused r

/-- `step()` (R173, R494): Unimplemented, with the opcode fetch made (R94, R176), if the byte at pc has no descriptor,
UndefinedRead if the instruction reads an unspecified value under `UNDEF_READ = FAULT`, otherwise the instruction and the
EI delay. -/
def runStep (s : State) : Result :=
  let op := s.peek s.pc
  if hasDescriptor s.config.opcodeSet op then
    match decode s.window with
    | .error _ => .fault (.unimplemented op s.pc s.opcodeRead)
    | .ok (i, _) =>
      match firstUnspecified (formReads i.form s) s with
      | some name => .fault (.undefinedRead name)
      | none => finishStep s.eiPending (exec i s)
  else .fault (.unimplemented op s.pc s.opcodeRead)

/-- The state with the default `MEM`, whose contents the host can place (log 4). -/
def State.onArray (s : State) : State :=
  match s.config.memory with
  | .array => s
  | .external => { s with config := { s.config with memory := .array }, history := [] }

/-- Bytes placed in memory from an address up, by the host and not by the core (R92). -/
def placeBytes : Word → List Byte → State → State
  | _, [], s => s
  | a, b :: bs, s => placeBytes (a + 1) bs (s.setMem (Memory.write s.mem a.toNat b))

end Sys2Proof.Machine
end

