-- ==== Sys2Proof/Machine/Step.lean ====
section
/-!
DEFINITION. One step of the machine, and the host's way to place the instruction the next step runs.
-/

namespace Sys2Proof.Machine

/-- `step()` (40_dispatch.md R173). -/
def step (s : State) : Host.Outcome State Fault Refusal := runStep s

/-- The bits `w` of a table row of `nbits` bits, placed at pc of the default `MEM`, where the next
step fetches (R38; log 4). -/
def State.withFetchWord (s : State) (nbits w : Nat) : State := placeBytes s.pc (tableBytes nbits w) s.onArray

end Sys2Proof.Machine
end

