-- ==== Sys2Proof/Machine/HostPort.lean ====
section
/-!
DEFINITION. What the host may do between two steps: the interrupt port of 60_exceptions.md R500 to R504 and the
register writes of R496. None of it happens inside a step (40_dispatch.md R181).
-/

namespace Sys2Proof.Machine

/-- What a call on the interrupt port answers (R500, R503). -/
inductive PortReply where
  | accepted (cost : Nat)
  | notAccepted
  | woken
deriving DecidableEq, Repr

/-- The answer of a call on the port: the reply and the state, or a refusal. -/
abbrev PortResult := Host.Outcome (PortReply × State) Fault Refusal

/-- `interrupt(k)` (R500). Under `ABSENT` it does not exist; k outside 0..4 is refused (U10). Under
`UNDEF_READ = FAULT` the push reads sp (DESIGN CHOICE, log 9). That k is the lowest pending source is the host's
obligation (R504, log 10). -/
def interrupt (k : Nat) (s : State) : PortResult :=
  match s.config.interruptPort with
  | .absent => .refused .interruptPortAbsent
  | .present =>
    if 4 < k then .refused (.interruptIndexOutOfRange k)
    else if s.ime then
      match firstUnspecified [.sp] s with
      | some name => .fault (.undefinedRead name)
      | none => .next (.accepted 5, takeInterrupt k s)
    else .next (.notAccepted, s)

/-- The state after `wake()` (R503): past a HALT or STOP, and nothing else; no cycles. -/
def wakeState (s : State) : State :=
  let op := readByte s.pc s.beginCalls
  (op.2.setPc (resumeAddress op.1 s.pc)).setCost 0

/-- `wake()` (R503). -/
def wake (s : State) : PortResult :=
  match s.config.interruptPort with
  | .absent => .refused .interruptPortAbsent
  | .present => .next (.woken, wakeState s)

/-- A write through the Register/Flag Model's set interface (R496): a register, a pair, PC or a flag. sp is none of the
four that R496 quotes, and no other rule names it there, so the host does not write it (DESIGN CHOICE, log 16). -/
inductive HostWrite where
  | reg (r : Reg8) (v : Byte)
  | pair (p : Pair) (v : Word)
  | pc (v : Word)
  | fZ (v : Bool)
  | fN (v : Bool)
  | fH (v : Bool)
  | fC (v : Bool)
deriving DecidableEq, Repr

/-- The state after such a write. -/
def hostWrite (x : HostWrite) (s : State) : State :=
  match x with
  | .reg r v => s.setReg r v
  | .pair p v => s.setPair p v
  | .pc v => s.setPc v
  | .fZ v => s.setZ v
  | .fN v => s.setN v
  | .fH v => s.setH v
  | .fC v => s.setC v

/-- What the host does next: a step, a call on the interrupt port, or a register write. -/
inductive HostAction where
  | step
  | interrupt (k : Nat)
  | wake
  | write (x : HostWrite)
deriving DecidableEq, Repr

/-- The state a port call leaves. -/
def portState : PortResult → Result
  | .next (_, t) => .next t
  | .fault r => .fault r
  | .refused r => .refused r

/-- The state the host goes on from after an action on `s` that faulted (R495, R496): what an Unimplemented step left, and
after UndefinedRead the state before (R180, R492). -/
def stateAfter (s : State) : Fault → State
  | .unimplemented _ _ left => left
  | .undefinedRead _ => s

/-- One action of the host. -/
def act (x : HostAction) (s : State) : Result :=
  match x with
  | .step => step s
  | .interrupt k => portState (interrupt k s)
  | .wake => portState (wake s)
  | .write w => .next (hostWrite w s)

end Sys2Proof.Machine
end

