-- ==== Sys2Proof/Machine/Cost.lean ====
section
/-!
DEFINITION. The cycle cost of a descriptor as a query on the current state (40_dispatch.md R170, R175;
70_reset_and_hazards.md R551), written from those rules and not from the meanings, which return the cost of their own
rule. It is recomputed from the flags at each query.
-/

namespace Sys2Proof.Machine

/-- The cost of `TCB[s]` (R177): 2 for a register operand; 4 for (HL), except BIT b,(HL): 3. -/
def cbSubCost (s : Byte) : Nat :=
  if s.toNat % 8 = 6 then (if s.toNat / 64 = 1 then 3 else 4) else 2

/-- `cost(state)` (R175, R551). -/
def formCost (f : Form) (s : State) : Nat :=
  match f with
  | .jpCc cc _ => if s.cond cc then 4 else 3
  | .jrCc cc _ => if s.cond cc then 3 else 2
  | .callCc cc _ => if s.cond cc then 6 else 3
  | .retCc cc => if s.cond cc then 5 else 2
  | .alu _ (.opd (.reg _)) | .inc8 (.reg _) | .dec8 (.reg _) | .ldRegReg _ _ | .nop | .halt | .stop _ | .di | .ei
  | .jpHl | .accRot _ | .daa | .cpl | .scf | .ccf => 1
  | .alu _ (.opd .atHL) | .alu _ (.imm _) | .ldRegHl _ | .ldHlReg _ | .ldRegN _ _ | .ldAInd _ | .ldIndA _ | .ldCA
  | .ldAC | .ldHlStepA _ | .ldAHlStep _ | .inc16 _ | .dec16 _ | .addHl _ | .ldSpHl | .cbRot _ (.reg _)
  | .bit _ (.reg _) | .res _ (.reg _) | .set _ (.reg _) => 2
  | .ldRpNn _ _ | .ldHlN _ | .ldhAN _ | .ldhNA _ | .inc8 .atHL | .dec8 .atHL | .pop _ | .jr _ | .bit _ .atHL
  | .ldHlSp _ => 3
  | .jp _ | .ret | .reti | .rst _ | .push _ | .ldANn _ | .ldNnA _ | .addSp _ | .cbRot _ .atHL | .res _ .atHL
  | .set _ .atHL => 4
  | .ldNnSp _ => 5
  | .call _ => 6
  | .prefixCb sub => cbSubCost sub
  | .illegal _ => 0

/-- The current cost of an instruction (R175, R178), for the flags as they are held: a query never faults, also where
`UNDEF_READ = FAULT` and the tested flag is unspecified, since R180 speaks of `step()` alone (DESIGN CHOICE, log 12).
ILLEGAL has no descriptor and no cost (R461); its 0 is never returned by a step. -/
def costNow (i : Instr) (s : State) : Nat := formCost i.form s

end Sys2Proof.Machine
end

