-- ==== Sys2Proof/Machine/Render.lean ====
section
/-!
DEFINITION. The mnemonic-rendering function (30_encoding.md R137 to R140). The text is not normative (R140): no
execution rule reads it and no step calls it (log 11). It alone shows the second byte of STOP (47_system.md R463).
-/

namespace Sys2Proof.Machine

/-- One hexadecimal digit. -/
def hexDigit (n : Nat) : String :=
  ["0", "1", "2", "3", "4", "5", "6", "7", "8", "9", "A", "B", "C", "D", "E", "F"].getD (n % 16) "0"

/-- `$XX` (R139). -/
def hexByte (v : Byte) : String := "$" ++ hexDigit (v.toNat / 16) ++ hexDigit v.toNat

/-- `$XXXX` (R139). -/
def hexWord (v : Word) : String :=
  "$" ++ hexDigit (v.toNat / 4096) ++ hexDigit (v.toNat / 256) ++ hexDigit (v.toNat / 16) ++ hexDigit v.toNat

/-- A signed decimal offset with its sign (R139). -/
def signedText (e : Byte) : String :=
  if s8 e < 0 then toString (s8 e) else "+" ++ toString (s8 e)

def regText : Reg8 → String
  | .a => "A" | .b => "B" | .c => "C" | .d => "D" | .e => "E" | .h => "H" | .l => "L"

def pairText : Pair → String
  | .bc => "BC" | .de => "DE" | .hl => "HL"

def rpText : Rp → String
  | .pair p => pairText p
  | .sp => "SP"

def rp2Text : Rp2 → String
  | .pair p => pairText p
  | .af => "AF"

def indText : Ind → String
  | .bc => "(BC)" | .de => "(DE)"

def condText : Cond → String
  | .nz => "NZ" | .z => "Z" | .nc => "NC" | .c => "C"

def operandText : Operand8 → String
  | .reg r => regText r
  | .atHL => "(HL)"

def srcText : AluSrc → String
  | .opd o => operandText o
  | .imm n => hexByte n

/-- ADD, ADC and SBC write their first operand, the others omit it (R137). -/
def aluText : AluOp → String
  | .add => "ADD A," | .adc => "ADC A," | .sub => "SUB " | .sbc => "SBC A," | .and => "AND " | .xor => "XOR "
  | .or => "OR " | .cp => "CP "

def accRotText : AccRot → String
  | .rlca => "RLCA" | .rrca => "RRCA" | .rla => "RLA" | .rra => "RRA"

def cbRotText : CbRot → String
  | .rlc => "RLC" | .rrc => "RRC" | .rl => "RL" | .rr => "RR" | .sla => "SLA" | .sra => "SRA" | .swap => "SWAP"
  | .srl => "SRL"

def stepText : HlStep → String
  | .inc => "(HL+)" | .dec => "(HL-)"

/-- The text of R137 for an operation whose opcode is at `pc`; a JR is written with its target address (R139). -/
def formText (f : Form) (pc : Word) : String :=
  match f with
  | .jp nn => "JP " ++ hexWord nn
  | .jpCc cc nn => "JP " ++ condText cc ++ "," ++ hexWord nn
  | .jr e => "JR " ++ hexWord (pc + 2 + sext16 e)
  | .jrCc cc e => "JR " ++ condText cc ++ "," ++ hexWord (pc + 2 + sext16 e)
  | .jpHl => "JP HL"
  | .call nn => "CALL " ++ hexWord nn
  | .callCc cc nn => "CALL " ++ condText cc ++ "," ++ hexWord nn
  | .ret => "RET"
  | .retCc cc => "RET " ++ condText cc
  | .reti => "RETI"
  | .rst y => "RST " ++ hexByte (BitVec.ofNat 8 (8 * y.val))
  | .alu op src => aluText op ++ srcText src
  | .inc8 o => "INC " ++ operandText o
  | .dec8 o => "DEC " ++ operandText o
  | .daa => "DAA"
  | .cpl => "CPL"
  | .scf => "SCF"
  | .ccf => "CCF"
  | .accRot k => accRotText k
  | .prefixCb _ => "PREFIX CB"
  | .cbRot k o => cbRotText k ++ " " ++ operandText o
  | .bit b o => "BIT " ++ toString b.val ++ "," ++ operandText o
  | .res b o => "RES " ++ toString b.val ++ "," ++ operandText o
  | .set b o => "SET " ++ toString b.val ++ "," ++ operandText o
  | .ldRegReg dst src => "LD " ++ regText dst ++ "," ++ regText src
  | .ldRegHl dst => "LD " ++ regText dst ++ ",(HL)"
  | .ldHlReg src => "LD (HL)," ++ regText src
  | .ldRegN dst n => "LD " ++ regText dst ++ "," ++ hexByte n
  | .ldHlN n => "LD (HL)," ++ hexByte n
  | .ldAInd p => "LD A," ++ indText p
  | .ldIndA p => "LD " ++ indText p ++ ",A"
  | .ldANn nn => "LD A,(" ++ hexWord nn ++ ")"
  | .ldNnA nn => "LD (" ++ hexWord nn ++ "),A"
  | .ldhNA n => "LDH (" ++ hexByte n ++ "),A"
  | .ldhAN n => "LDH A,(" ++ hexByte n ++ ")"
  | .ldCA => "LD (C),A"
  | .ldAC => "LD A,(C)"
  | .ldHlStepA k => "LD " ++ stepText k ++ ",A"
  | .ldAHlStep k => "LD A," ++ stepText k
  | .ldRpNn rp nn => "LD " ++ rpText rp ++ "," ++ hexWord nn
  | .ldSpHl => "LD SP,HL"
  | .ldNnSp nn => "LD (" ++ hexWord nn ++ "),SP"
  | .push rp => "PUSH " ++ rp2Text rp
  | .pop rp => "POP " ++ rp2Text rp
  | .inc16 rp => "INC " ++ rpText rp
  | .dec16 rp => "DEC " ++ rpText rp
  | .addHl rp => "ADD HL," ++ rpText rp
  | .addSp e => "ADD SP," ++ signedText e
  | .ldHlSp e => "LD HL,SP" ++ signedText e
  | .nop => "NOP"
  | .illegal _ => "ILLEGAL"
  | .halt => "HALT"
  | .stop n => "STOP " ++ hexByte n
  | .di => "DI"
  | .ei => "EI"

/-- The text of an instruction at `pc`; a prefix is rendered as its sub-instruction (R140, R177). -/
def renderInstr (i : Instr) (pc : Word) : String := formText i.resolve.form pc

end Sys2Proof.Machine
end

