-- ==== Sys2Proof/Machine/Table.lean ====
section
/-!
DEFINITION. Operation Descriptors, the builders, the table with its uniqueness check, the exposed table, and
construction: 40_dispatch.md R170 to R172 and R178, 60_exceptions.md R491, 10_state.md R60,
70_reset_and_hazards.md R530.
-/

namespace Sys2Proof.Machine

/-- An Operation Descriptor (R170). It captures no state: `cost`, `render` and `execute` are functions of the state at
the call, and read their operand bytes there. `execute` runs the whole instruction, its own fetch included, from a
state whose pc is at the opcode. -/
structure Descriptor where
  pattern : Byte
  length  : Nat
  cost    : State → Nat
  render  : State → String
  execute : State → Result

/-- The instruction of opcode `op` with the operand bytes after pc, as `execute` fetches them: after the opcode (R94,
R129). -/
def operandInstr (op : Byte) (s : State) : Instr :=
  decodePrimary op (s.answer [.read s.pc] (s.pc + 1)) (s.answer [.read s.pc, .read (s.pc + 1)] (s.pc + 2))

/-- The same as a query reads them, at pc+1 and pc+2 as they are at the query (R140, R178). -/
def queriedInstr (op : Byte) (s : State) : Instr :=
  decodePrimary op (s.peek (s.pc + 1)) (s.answer [.read (s.pc + 1)] (s.pc + 2))

/-- The primary descriptor of an opcode byte (R170, R173). For 0xCB the current cost reads the byte at pc+1 (R178). -/
def descriptor (op : Byte) : Descriptor :=
  { pattern := op
    length := (decodePrimary op 0 0).length
    cost := fun s => costNow (queriedInstr op s) s
    render := fun s => renderInstr (queriedInstr op s) s.pc
    execute := fun s => exec (operandInstr op s) s }

/-- The sub-descriptor of a CB sub-opcode (R177). -/
def cbDescriptor (sub : Byte) : Descriptor :=
  { pattern := sub
    length := (decodeCb sub).length
    cost := fun s => costNow (decodeCb sub) s
    render := fun s => renderInstr (decodeCb sub) s.pc
    execute := fun s => exec (decodeCb sub) s }

/-! ## The builders (R171): the opcode bytes each emits, in the order of its list -/

/-- Builder 1: jumps, branches, calls, returns and restarts (41_control_flow.md). -/
def builder1 : List Byte :=
  [0x18, 0x20, 0x28, 0x30, 0x38, 0xC0, 0xC2, 0xC3, 0xC4, 0xC7, 0xC8, 0xC9, 0xCA, 0xCC, 0xCD, 0xCF] ++
  [0xD0, 0xD2, 0xD4, 0xD7, 0xD8, 0xD9, 0xDA, 0xDC, 0xDF, 0xE7, 0xE9, 0xEF, 0xF7, 0xFF]

/-- Builder 2: compare (42_compare_xor.md). -/
def builder2 : List Byte :=
  [0xB8, 0xB9, 0xBA, 0xBB, 0xBC, 0xBD, 0xBE, 0xBF, 0xFE]

/-- Builder 3: exclusive-or (42_compare_xor.md). -/
def builder3 : List Byte :=
  [0xA8, 0xA9, 0xAA, 0xAB, 0xAC, 0xAD, 0xAE, 0xAF, 0xEE]

/-- Builder 4: other 8-bit arithmetic and logic (43_alu8.md). -/
def builder4 : List Byte :=
  [0x04, 0x05, 0x0C, 0x0D, 0x14, 0x15, 0x1C, 0x1D, 0x24, 0x25, 0x27, 0x2C, 0x2D, 0x2F, 0x34, 0x35] ++
  [0x37, 0x3C, 0x3D, 0x3F, 0x80, 0x81, 0x82, 0x83, 0x84, 0x85, 0x86, 0x87, 0x88, 0x89, 0x8A, 0x8B] ++
  [0x8C, 0x8D, 0x8E, 0x8F, 0x90, 0x91, 0x92, 0x93, 0x94, 0x95, 0x96, 0x97, 0x98, 0x99, 0x9A, 0x9B] ++
  [0x9C, 0x9D, 0x9E, 0x9F, 0xA0, 0xA1, 0xA2, 0xA3, 0xA4, 0xA5, 0xA6, 0xA7, 0xB0, 0xB1, 0xB2, 0xB3] ++
  [0xB4, 0xB5, 0xB6, 0xB7, 0xC6, 0xCE, 0xD6, 0xDE, 0xE6, 0xF6]

/-- Builder 5: accumulator rotates and the CB prefix (44_rotate_shift_bit.md). -/
def builder5 : List Byte :=
  [0x07, 0x0F, 0x17, 0x1F, 0xCB]

/-- Builder 6: loads, stores and the stack (45_load_store.md). -/
def builder6 : List Byte :=
  [0x01, 0x02, 0x06, 0x08, 0x0A, 0x0E, 0x11, 0x12, 0x16, 0x1A, 0x1E, 0x21, 0x22, 0x26, 0x2A, 0x2E] ++
  [0x31, 0x32, 0x36, 0x3A, 0x3E, 0x40, 0x41, 0x42, 0x43, 0x44, 0x45, 0x46, 0x47, 0x48, 0x49, 0x4A] ++
  [0x4B, 0x4C, 0x4D, 0x4E, 0x4F, 0x50, 0x51, 0x52, 0x53, 0x54, 0x55, 0x56, 0x57, 0x58, 0x59, 0x5A] ++
  [0x5B, 0x5C, 0x5D, 0x5E, 0x5F, 0x60, 0x61, 0x62, 0x63, 0x64, 0x65, 0x66, 0x67, 0x68, 0x69, 0x6A] ++
  [0x6B, 0x6C, 0x6D, 0x6E, 0x6F, 0x70, 0x71, 0x72, 0x73, 0x74, 0x75, 0x77, 0x78, 0x79, 0x7A, 0x7B] ++
  [0x7C, 0x7D, 0x7E, 0x7F, 0xC1, 0xC5, 0xD1, 0xD5, 0xE0, 0xE1, 0xE2, 0xE5, 0xEA, 0xF0, 0xF1, 0xF2] ++
  [0xF5, 0xF9, 0xFA]

/-- Builder 7: 16-bit arithmetic (46_alu16.md). -/
def builder7 : List Byte :=
  [0x03, 0x09, 0x0B, 0x13, 0x19, 0x1B, 0x23, 0x29, 0x2B, 0x33, 0x39, 0x3B, 0xE8, 0xF8]

/-- Builder 8: system (47_system.md). -/
def builder8 : List Byte :=
  [0x00, 0x10, 0x76, 0xF3, 0xFB]

/-- The bytes the builders emit, concatenated in the order of R171. Under `SOURCE_ONLY` only builders 1 to 3 run, and
they emit the source-tier rows alone (R133). -/
def patterns : OpcodeSet → List Byte
  | .full => builder1 ++ builder2 ++ builder3 ++ builder4 ++ builder5 ++ builder6 ++ builder7 ++ builder8
  | .sourceOnly => (builder1 ++ builder2 ++ builder3).filter sourceBytes.contains

/-- The bytes of the CB sub-table: all 256 under `FULL` (R131); `SOURCE_ONLY` has no prefix (R133). -/
def cbPatterns : OpcodeSet → List Byte
  | .full => (List.range 256).map (BitVec.ofNat 8)
  | .sourceOnly => []

/-! ## The table and its construction -/

/-- The construction-time error (R491): the byte claimed twice, 0xCB00 + s for the CB sub-table. -/
inductive ConstructionError where
  | tableConstruction (pattern : Nat)
deriving DecidableEq, Repr

/-- An Operation Table: descriptors found by their pattern. -/
abbrev Table := List Descriptor

/-- `T[op]`. -/
def Table.find (t : Table) (op : Byte) : Option Descriptor := List.find? (fun d => d.pattern == op) t

/-- `build` (R172): each descriptor is added unless its byte is already claimed. `base` is 0 for the primary table and
0xCB00 for the CB sub-table (R491). -/
def build (base : Nat) : List Descriptor → Table → Except ConstructionError Table
  | [], t => .ok t
  | d :: ds, t =>
    match Table.find t d.pattern with
    | some _ => .error (.tableConstruction (base + d.pattern.toNat))
    | none => build base ds (d :: t)

/-- The primary table of an `OPCODE_SET` (R172). -/
def primaryTable (set : OpcodeSet) : Except ConstructionError Table := build 0 ((patterns set).map descriptor) []

/-- The CB sub-table of an `OPCODE_SET` (R172, R177). -/
def cbTable (set : OpcodeSet) : Except ConstructionError Table :=
  build 0xCB00 ((cbPatterns set).map cbDescriptor) []

/-- `lookup(op)` (R178): the descriptor of a byte, none where the set has none. A query has no effect on state. -/
def lookup (set : OpcodeSet) (op : Byte) : Option Descriptor :=
  match primaryTable set with
  | .ok t => Table.find t op
  | .error _ => none

/-! ## Construction -/

/-- The values drawn at construction for what `POWER_ON` leaves unspecified (R60, R62). -/
structure Drawn where
  a  : Byte
  b  : Byte
  c  : Byte
  d  : Byte
  e  : Byte
  h  : Byte
  l  : Byte
  sp : Word
  fZ : Bool
  fN : Bool
  fH : Bool
  fC : Bool
deriving DecidableEq, Repr

/-- The values `State.reset` names (DESIGN CHOICE, log 1). -/
def Drawn.zero : Drawn :=
  { a := 0, b := 0, c := 0, d := 0, e := 0, h := 0, l := 0, sp := 0, fZ := false, fN := false, fH := false
    fC := false }

/-- The state of a newly constructed core under `POWER_ON` (R60, R530): pc = 0x0000, IME = EI_PENDING = 0, memory
`MEM_INIT`, everything else drawn and not specified. -/
def powerOn (cfg : Config) (v : Drawn) (memInit : Memory) : State :=
  { a := v.a, b := v.b, c := v.c, d := v.d, e := v.e, h := v.h, l := v.l
    pc := 0x0000, sp := v.sp
    fZ := v.fZ, fN := v.fN, fH := v.fH, fC := v.fC
    ime := false, eiPending := false
    mem := memInit, history := [], specified := Specified.none, config := cfg, cost := 0, accesses := [] }

/-- The state of a newly constructed core under `POST_BOOT_DMG` (R60). -/
def postBootDmg (cfg : Config) (memInit : Memory) : State :=
  { a := 0x01, b := 0x00, c := 0x13, d := 0x00, e := 0xD8, h := 0x01, l := 0x4D
    pc := 0x0100, sp := 0xFFFE
    fZ := true, fN := false, fH := true, fC := true
    ime := false, eiPending := false
    mem := memInit, history := [], specified := Specified.all, config := cfg, cost := 0, accesses := [] }

/-- The initial state of a reset profile (R60). -/
def initialState (profile : ResetProfile) (cfg : Config) (v : Drawn) (memInit : Memory) : State :=
  match profile with
  | .powerOn => powerOn cfg v memInit
  | .postBootDmg => postBootDmg cfg memInit

/-- Construction (R530): the tables are built and checked, and if a check fails no core exists. -/
def construct (profile : ResetProfile) (cfg : Config) (v : Drawn) (memInit : Memory) :
    Except ConstructionError State :=
  match primaryTable cfg.opcodeSet with
  | .error e => .error e
  | .ok _ =>
    match cbTable cfg.opcodeSet with
    | .error e => .error e
    | .ok _ => .ok (initialState profile cfg v memInit)

end Sys2Proof.Machine
end

