-- ==== Sys2Proof/Safety.lean ====
section
/-!
DEFINITION. The terms statements are written in: what an instruction may change (`Frame`), what a step hands back
(`Report`), the operand an instruction works on, and the invariant of the machine (`Inv`). They are said through the
read of one register, one flag and one byte, not through the operations the meanings are written with.
-/

namespace Sys2Proof

open Sys2Proof.Machine

/-- The four flags (10_state.md R42). -/
inductive Flag where
  | z | n | h | c
deriving DecidableEq, Repr

/-- A flag by its name. -/
def Machine.State.flag (s : State) : Flag → Bool
  | .z => s.fZ
  | .n => s.fN
  | .h => s.fH
  | .c => s.fC

/-! ## Frames -/

/-- What an instruction writes. Everything that is not named stays as it was; pc is not a part of a frame. -/
structure Writes where
  regs      : List Reg8 := []
  sp        : Bool := false
  flags     : List Flag := []
  ime       : Bool := false
  eiPending : Bool := false
  bytes     : List Word := []
deriving DecidableEq, Repr

/-- Whether a register or flag that carries a "specified" bit (R49) is among those written. -/
def Writes.covers (w : Writes) : Named → Bool
  | .reg r => w.regs.contains r
  | .sp => w.sp
  | .fZ => w.flags.contains .z
  | .fN => w.flags.contains .n
  | .fH => w.flags.contains .h
  | .fC => w.flags.contains .c

/-- From `s` to `t` nothing outside `w` changed: registers, sp, flags, IME, EI_PENDING, every byte of the memory array
and the parameters. What `w` names is specified afterwards, and no other "specified" bit changed (R49). What an external
`MEM` holds is its own; `Report` says that it is told the calls of the step and nothing else. -/
structure Frame (w : Writes) (s t : State) : Prop where
  regs      : ∀ r, r ∉ w.regs → t.reg r = s.reg r
  sp        : w.sp = false → t.sp = s.sp
  flags     : ∀ f, f ∉ w.flags → t.flag f = s.flag f
  ime       : w.ime = false → t.ime = s.ime
  eiPending : w.eiPending = false → t.eiPending = s.eiPending
  bytes     : s.config.memory = .array → ∀ a, a ∉ w.bytes → t.peek a = s.peek a
  config    : t.config = s.config
  specified : ∀ n, t.specified.get n = (s.specified.get n || w.covers n)

/-! ## What a step hands back -/

/-- The reads that fetch `n` bytes from `a` up (R94). -/
def fetchReads : Nat → Word → List Access
  | 0, _ => []
  | n + 1, a => .read a :: fetchReads n (a + 1)

/-- The step cost `cost` cycle-units, and its calls on the Memory Interface were the fetch of `n` bytes at pc and then
`data`, in that order (R94, R173). An external `MEM` was told exactly these calls. -/
structure Report (n cost : Nat) (data : List Access) (s t : State) : Prop where
  cost     : t.cost = cost
  accesses : t.accesses = fetchReads n s.pc ++ data
  history  : t.history = s.logged t.accesses
  image    : s.config.memory = .external → t.mem = s.mem

/-- The byte that the first data read of an instruction of `n` bytes answers at `a`: with the memory array the byte
there, and with an external `MEM` what it answers after the fetch (R94). -/
def Machine.State.data (s : State) (n : Nat) (a : Word) : Byte := s.answer (fetchReads n s.pc) a

/-! ## The operand a register code selects (00_scope.md R14, 30_encoding.md R124) -/

/-- Its value in an instruction of `n` bytes: a register, or the byte read at HL. -/
def Machine.State.operand (s : State) (n : Nat) : Operand8 → Byte
  | .reg r => s.reg r
  | .atHL => s.data n (s.pair .hl)

/-- The byte at `a` is `v`, where memory is the array; an external `MEM` was told of the write (`Report`). -/
def Machine.State.stores (s : State) (a : Word) (v : Byte) : Prop := s.config.memory = .array → s.peek a = v

/-- It holds `v` in `t`, the byte at HL being taken at the address HL had in `s`. -/
def Operand8.Holds (o : Operand8) (v : Byte) (s t : State) : Prop :=
  match o with
  | .reg r => t.reg r = v
  | .atHL => t.stores (s.pair .hl) v

/-- The register it is, if any. -/
def Operand8.regs : Operand8 → List Reg8
  | .reg r => [r]
  | .atHL => []

/-- The byte of memory it is, if any. -/
def Operand8.bytes (o : Operand8) (s : State) : List Word :=
  match o with
  | .reg _ => []
  | .atHL => [s.pair .hl]

/-- The calls that read it. -/
def Operand8.reads (o : Operand8) (s : State) : List Access :=
  match o with
  | .reg _ => []
  | .atHL => [.read (s.pair .hl)]

/-- The calls that read it and then write `v` to it. -/
def Operand8.updates (o : Operand8) (v : Byte) (s : State) : List Access :=
  match o with
  | .reg _ => []
  | .atHL => [.read (s.pair .hl), .write (s.pair .hl) v]

/-- One of two numbers: the first for a register, the second for (HL). -/
def Operand8.pick (o : Operand8) (register memory : Nat) : Nat :=
  match o with
  | .reg _ => register
  | .atHL => memory

/-- The value of the second operand of an ALU operation. -/
def Machine.State.source (s : State) : AluSrc → Byte
  | .opd o => s.operand 1 o
  | .imm n => n

/-- The bytes of an ALU operation: two with the immediate n, else one. -/
def AluSrc.bytes : AluSrc → Nat
  | .opd _ => 1
  | .imm _ => 2

/-- The cycles of an ALU operation: one on a register, else two. -/
def AluSrc.cycles : AluSrc → Nat
  | .opd (.reg _) => 1
  | .opd .atHL => 2
  | .imm _ => 2

/-- The calls that read the second operand, beside the fetch. -/
def AluSrc.reads (src : AluSrc) (s : State) : List Access :=
  match src with
  | .opd o => o.reads s
  | .imm _ => []

/-! ## The registers and bytes a pair names -/

/-- The registers of `rp`: none for SP. -/
def Rp.regs : Rp → List Reg8
  | .pair p => [Pair.hiReg p, Pair.loReg p]
  | .sp => []

/-- Whether `rp` is SP. -/
def Rp.isSp : Rp → Bool
  | .pair _ => false
  | .sp => true

/-- The registers of `rp2`: A alone for AF. -/
def Rp2.regs : Rp2 → List Reg8
  | .pair p => [Pair.hiReg p, Pair.loReg p]
  | .af => [.a]

/-- The flags of `rp2`: all four for AF (R34). -/
def Rp2.flags : Rp2 → List Flag
  | .pair _ => []
  | .af => [.z, .n, .h, .c]

/-- What PUSH stores for `rp2`: the pair, or A with Z, N, H and C in bits 7 to 4 of the low byte (R34, R394). -/
def Machine.State.pushValue (s : State) : Rp2 → Word
  | .pair p => s.pair p
  | .af => wordOf (s.reg .a)
      (BitVec.ofNat 8 (128 * s.fZ.toNat + 64 * s.fN.toNat + 32 * s.fH.toNat + 16 * s.fC.toNat))

/-- The word at an address, the low byte at the lower address and read first (R82). -/
def Machine.State.peekWord (s : State) (a : Word) : Word := wordOf (s.answer [.read a] (a + 1)) (s.peek a)

/-- The word that a one-byte instruction pops: the low byte at sp, read first, and the high byte above it (R393). -/
def Machine.State.popped (s : State) : Word :=
  wordOf (s.answer (fetchReads 1 s.pc ++ [.read s.sp]) (s.sp + 1)) (s.data 1 s.sp)

/-! ## Encodings and results as the rules print them -/

/-- The bytes of an ALU instruction: `base + code` for a coded operand, `imm` and n for the immediate (R127). -/
def AluSrc.encoding (base : Nat) (imm : Byte) : AluSrc → List Byte
  | .opd o => [BitVec.ofNat 8 (base + o.code)]
  | .imm n => [imm, n]

/-- The result of a rotate, shift or SWAP on a byte `v` with the carry `c`, both as numbers (R320). -/
def CbRot.value (k : CbRot) (v c : Nat) : Nat :=
  match k with
  | .rlc => (2 * v + v / 128) % 256
  | .rrc => v / 2 + 128 * (v % 2)
  | .rl => (2 * v + c) % 256
  | .rr => v / 2 + 128 * c
  | .sla => 2 * v % 256
  | .sra => v / 2 + 128 * (v / 128)
  | .swap => 16 * (v % 16) + v / 16
  | .srl => v / 2

/-- The bit shifted out, 0 for SWAP (R320). -/
def CbRot.out (k : CbRot) (v : Byte) : Bool :=
  match k with
  | .rlc | .rl | .sla => v.getLsbD 7
  | .rrc | .rr | .sra | .srl => v.getLsbD 0
  | .swap => false

/-- The CB operation that an accumulator rotate does on A (R321 to R324). -/
def AccRot.cb : AccRot → CbRot
  | .rlca => .rlc
  | .rrca => .rrc
  | .rla => .rl
  | .rra => .rr

/-- A byte of two decimal digits. -/
def isDecimal (v : Byte) : Prop := v.toNat / 16 ≤ 9 ∧ v.toNat % 16 ≤ 9

/-- The number its digits write. -/
def decimal (v : Byte) : Nat := 10 * (v.toNat / 16) + v.toNat % 16

/-! ## The stack -/

/-- The two bytes a push writes (R392). -/
def Machine.State.stackBytes (s : State) : List Word := [s.sp - 1, s.sp - 2]

/-- `v` was pushed: sp is two lower and addresses its low byte, the high byte is above it (R392). -/
structure Pushed (v : Word) (s t : State) : Prop where
  sp   : t.sp = s.sp - 2
  high : t.stores (s.sp - 1) (hi8 v)
  low  : t.stores (s.sp - 2) (lo8 v)

/-- The calls of a push, the high byte first (R392). -/
def pushCalls (v : Word) (s : State) : List Access := [.write (s.sp - 1) (hi8 v), .write (s.sp - 2) (lo8 v)]

/-- The calls of a pop, the low byte first (R393). -/
def popCalls (s : State) : List Access := [.read s.sp, .read (s.sp + 1)]

/-- Where execution goes on after an interrupt or a wake: past a HALT or the two bytes of a STOP (R500, R503). -/
def Machine.State.resumeAt (s : State) : Word :=
  if s.peek s.pc = 0x76 then s.pc + 1 else if s.peek s.pc = 0x10 then s.pc + 2 else s.pc

/-! ## The invariant -/

/-- What every state of a run satisfies: memory is in its canonical form, the array has no history (log 4), a cost is at
most 6 (the largest of R551), and a step makes at most five calls on the Memory Interface (R94). -/
structure Inv (s : State) : Prop where
  memory   : Memory.wf s.mem = true
  history  : s.config.memory = .array → s.history = []
  cost     : s.cost ≤ 6
  accesses : s.accesses.length ≤ 5

end Sys2Proof
end

