-- ==== Sys2Proof/Certificates/Slice0/Obligations.lean ====
section
/-!
DEFINITION. The statements for the provers, in the terms of Safety.lean. "Completes" is `exec i s = .next t`; `Report` is the
cost and the calls on the Memory Interface, which State holds in fields of the model's own (logs 4 and 5); `Frame` is what
stays unchanged. Each docstring names the rules of spec/ it rests on; OBLIGATIONS.json has the rest.
-/

open Sys2Proof Sys2Proof.Machine

/-! ## Encoding and the Operation Table -/

/-- Words written out from the spec's encodings decode to their instructions (R130, R131, R129). -/
def Obligations.SpecWordsDecode : Prop :=
  decode [0xC3, 0x34, 0x12] = .ok (.jp_nn 0x1234, []) ∧ decode [0x20, 0xFE] = .ok (.jr_NZ_e 0xFE, []) ∧
  decode [0xDC, 0x00, 0x30] = .ok (.call_C_nn 0x3000, []) ∧ decode [0xFF] = .ok (.rst_38, []) ∧
  decode [0xB8] = .ok (.cp_B, []) ∧ decode [0xA9] = .ok (.xor_C, []) ∧ decode [0x8E] = .ok (.adc_A_atHL, []) ∧
  decode [0x27] = .ok (.daa, []) ∧ decode [0x17] = .ok (.rla, []) ∧ decode [0xCB, 0x37] = .ok (.swap_A, []) ∧
  decode [0xCB, 0x7C] = .ok (.bit_7_H, []) ∧ decode [0x66] = .ok (.ld_H_atHL, []) ∧
  decode [0xE0, 0x80] = .ok (.ldh_atn_A 0x80, []) ∧ decode [0x08, 0x00, 0xC0] = .ok (.ld_atnn_SP 0xC000, []) ∧
  decode [0xF5] = .ok (.push_AF, []) ∧ decode [0x39] = .ok (.add_HL_SP, []) ∧ decode [0x76] = .ok (.halt, []) ∧
  decode [0x10, 0x55] = .ok (.stop 0x55, []) ∧ decode [0xD3] = .ok (.illegal 0xD3, [])

/-- Decoding the encoding of any well-formed instruction gives it back (R121, R130, R131, R177; the model's choice: log 8). -/
def Obligations.DecodeOfEncode : Prop :=
  (∀ (i : Instr) (rest : List Byte), i.wellFormed = true → (∀ sub, i ≠ .prefix_CB sub) →
    decode (encode i ++ rest) = .ok (i, rest)) ∧
  (∀ (sub : Byte) (rest : List Byte), decode (encode (.prefix_CB sub) ++ rest) = .ok (decodeCb sub, rest))

/-- Bytes that decode are the encoding of what they decode to (R121, R132). -/
def Obligations.EncodeOfDecode : Prop :=
  ∀ (bs : List Byte) (i : Instr) (rest : List Byte), decode bs = .ok (i, rest) →
    i.wellFormed = true ∧ bs = encode i ++ rest

/-- An instruction's length is fixed by its first byte alone (R136, R120). -/
def Obligations.LengthFromFirstByte : Prop :=
  ∀ (op : Byte) (rest : List Byte), ∃ n, 1 ≤ n ∧ n ≤ 3 ∧ (∀ b1 b2, (decodePrimary op b1 b2).length = n) ∧
    ((∃ i r, decode (op :: rest) = .ok (i, r)) ↔ n ≤ rest.length + 1) ∧
    (∀ i r, decode (op :: rest) = .ok (i, r) → i.length = n ∧ r = (op :: rest).drop n)

/-- The tables of the spec pass the uniqueness check (R172, R132, R133, R177). -/
def Obligations.TablesBuild : Prop :=
  (∃ t, primaryTable .full = .ok t ∧ t.length = 245) ∧ (∃ t, cbTable .full = .ok t ∧ t.length = 256) ∧
  (∃ t, primaryTable .sourceOnly = .ok t ∧ t.length = 24) ∧ cbTable .sourceOnly = .ok []

/-- Table construction succeeds exactly when no byte pattern is claimed twice (R172, R491). -/
def Obligations.BuildRefusesDuplicatePatterns : Prop :=
  ∀ (base : Nat) (ds : List Descriptor),
    ((∃ t, build base ds [] = .ok t) ↔ (ds.map Descriptor.pattern).Nodup) ∧
    (∀ t, build base ds [] = .ok t → (∀ d ∈ ds, Table.find t d.pattern = some d) ∧
      ∀ op d, Table.find t op = some d → d ∈ ds ∧ d.pattern = op) ∧
    (∀ e, build base ds [] = .error e →
      ∃ d ∈ ds, e = .tableConstruction (base + d.pattern.toNat) ∧ 2 ≤ (ds.map Descriptor.pattern).count d.pattern)

/-- The exposed table has a descriptor for exactly the bytes of the opcode set (R178, R132, R133).
The cost clause holds in every state. R178 gives the cost for the state at the query; that it is the cost of the held flag
value, with no fault, where the tested flag is unspecified under `UNDEF_READ = FAULT`, and that the query's read of pc+1
is no recorded call on an external `MEM`, is the model's choice (DESIGN CHOICE, log 12). -/
def Obligations.LookupIsTheTable : Prop :=
  ∀ (set : OpcodeSet) (op : Byte),
    (hasDescriptor set op = false → lookup set op = none) ∧
    (hasDescriptor set op = true → ∃ d, lookup set op = some d ∧ d.pattern = op ∧
      (∀ s : State, s.peek s.pc = op → ∃ i rest, decode s.window = .ok (i, rest) ∧
        d.length = i.length ∧ d.execute s = exec i s ∧
        d.cost s = costNow (decodePrimary op (s.peek (s.pc + 1)) 0) s ∧
        (s.config.memory = .array → d.cost s = costNow i s)))

/-! ## Steps -/

/-- A step runs the instruction decoded at pc, then the EI delay (R173; 0xCB is resolved to the CB instruction:
log 8). -/
def Obligations.StepRunsDecodedInstruction : Prop :=
  ∀ (s : State) (i : Instr) (rest : List Byte),
    hasDescriptor s.config.opcodeSet (s.peek s.pc) = true →
    decode [s.peek s.pc, s.answer [.read s.pc] (s.pc + 1), s.answer [.read s.pc, .read (s.pc + 1)] (s.pc + 2)] =
      .ok (i, rest) →
    (s.config.undefRead = .draw ∨ ∀ n ∈ formReads i.form s, s.specified.get n = true) →
    (∀ t, exec i s = .next t →
      step s = .next (if s.eiPending = true ∧ t.eiPending = true then (t.setIme true).setEiPending false else t)) ∧
    (∀ f, exec i s = .fault f → step s = .fault f) ∧ (∀ r, exec i s = .refused r → step s = .refused r)

/-- A step answers Unimplemented exactly when the byte at pc has no descriptor. It leaves the state as it was but for its
one access, the opcode fetch, and with the array a second step answers the same (R173, R176, R94, R490, R495, R496, R132,
R133; the model's choice: log 13 for the state a fault leaves, log 5 for the cost and the calls). -/
def Obligations.UnimplementedExactlyWithoutDescriptor : Prop :=
  (∀ (s : State) (op : Byte) (a : Word), (∃ t, step s = .fault (.unimplemented op a t)) ↔
    hasDescriptor s.config.opcodeSet (s.peek s.pc) = false ∧ op = s.peek s.pc ∧ a = s.pc) ∧
  (∀ (s t : State) (op : Byte) (a : Word), step s = .fault (.unimplemented op a t) →
    t.pc = s.pc ∧ Report 1 s.cost [] s t ∧ Frame {} s t ∧
    (s.config.memory = .array → t.mem = s.mem ∧ step t = .fault (.unimplemented op a t))) ∧
  (∀ op, hasDescriptor .full op = false ↔
    op ∈ ([0xD3, 0xDB, 0xDD, 0xE3, 0xE4, 0xEB, 0xEC, 0xED, 0xF4, 0xFC, 0xFD] : List Byte)) ∧
  (∀ op, hasDescriptor .sourceOnly op = true ↔
    op ∈ ([0x18, 0x20, 0x28, 0x30, 0x38, 0xC3, 0xC2, 0xCA, 0xD2, 0xDA, 0xA8, 0xA9, 0xAA, 0xAB, 0xAC, 0xAD, 0xAF, 0xB8,
      0xB9, 0xBA, 0xBB, 0xBC, 0xBD, 0xBF] : List Byte))

/-- ILLEGAL stops with Unimplemented, naming the byte and its address; only the opcode is read (R461, R176, R94; the
model's choice: log 13 for the state a fault leaves, log 5 for the cost and the calls). -/
def Obligations.IllegalBytesStop : Prop :=
  ∀ (op : Byte) (s : State), ∃ t, exec (.illegal op) s = .fault (.unimplemented op s.pc t) ∧ t.pc = s.pc ∧
    Report 1 s.cost [] s t ∧ Frame {} s t

/-- A step answers UndefinedRead exactly under FAULT, for the first unspecified value read (R62, R180, R494; the model's choice: log 9). -/
def Obligations.UndefinedReadExactly : Prop :=
  ∀ (s : State) (i : Instr) (rest : List Byte), decode s.window = .ok (i, rest) →
    hasDescriptor s.config.opcodeSet (s.peek s.pc) = true →
    (∀ n, step s = .fault (.undefinedRead n) ↔
      s.config.undefRead = .fault ∧ ∃ before after, formReads i.form s = before ++ n :: after ∧
        (∀ m ∈ before, s.specified.get m = true) ∧ s.specified.get n = false)

/-- Every step at a byte with a descriptor completes, and no step is refused (R493, R494). -/
def Obligations.StepCompletes : Prop :=
  (∀ s : State, hasDescriptor s.config.opcodeSet (s.peek s.pc) = true →
    (s.config.undefRead = .draw ∨ ∀ n, s.specified.get n = true) → ∃ t, step s = .next t) ∧
  (∀ (s : State) (r : Refusal), step s ≠ .refused r)

/-- Every instruction but ILLEGAL completes in every state, at its current cost (R174, R175, R178, R551; the model's
choice: log 5 for the field that holds the cost, log 12 for the current cost where the tested flag is unspecified under
`UNDEF_READ = FAULT`). -/
def Obligations.EveryInstructionCompletesAtItsCost : Prop :=
  ∀ (i : Instr) (s : State), (∀ op, i ≠ .illegal op) →
    ∃ t, exec i s = .next t ∧ t.cost = costNow i s ∧ 1 ≤ t.cost ∧ t.cost ≤ 6

/-- PREFIX_CB runs the sub-descriptor its sub-opcode selects, and every sub-opcode has one (R177; log 8). -/
def Obligations.PrefixRunsSubDescriptor : Prop :=
  ∀ (sub : Byte) (s : State), encode (decodeCb sub) = [0xCB, sub] ∧
    ∃ t, exec (.prefix_CB sub) s = .next t ∧ exec (decodeCb sub) s = .next t

/-- Every step keeps the invariant of the machine (R86, R94, R173, R551; the model's choice: log 3, 4, 5). -/
def Obligations.InvariantKeptByEveryStep : Prop :=
  ∀ s t : State, Inv s → step s = .next t → Inv t

/-- The invariant holds after construction and at reset, which is one construction (R530, R531, R60, R62; the
model's choice: log 1, 2, 3, and logs 4 and 5 for the model's own fields). -/
def Obligations.InvariantAtConstruction : Prop :=
  (∀ (profile : ResetProfile) (cfg : Config) (v : Drawn) (m : Memory) (s : State), Memory.wf m = true →
    construct profile cfg v m = .ok s → Inv s) ∧
  construct .powerOn Config.atReset Drawn.zero [] = .ok State.reset ∧ Inv State.reset

/-- Interrupt entry, wake and register writes by the host keep the invariant (R181, R496, R500, R503). "The host" is
`HostAction`, whose extent is the model's choice: sp is not among the registers it writes (log 16), interrupts are its
actions between steps and k above 4 is refused (log 10). The invariant's clauses are the model's own: the canonical form
(log 3), the history (log 4), the cost and the calls, of which `interrupt` and `wake` set their own (log 5). After a fault
the host goes on from `stateAfter` (logs 13 and 17). -/
def Obligations.InvariantKeptByTheHost : Prop :=
  ∀ (x : HostAction) (s : State), Inv s →
    (∀ t, act x s = .next t → Inv t) ∧ ∀ f, act x s = .fault f → Inv (stateAfter s f)

/-- What IME and EI_PENDING are after any step (R45, R46, R173, R464, R465, R210). -/
def Obligations.ImeAndEiPendingAfterAStep : Prop :=
  ∀ (s t : State) (i : Instr) (rest : List Byte), decode s.window = .ok (i, rest) → step s = .next t →
    t.ime = (if i = .di then false else if i = .reti then true else s.ime || s.eiPending) ∧
    t.eiPending = (if i = .ei then !s.eiPending else false)

/-- A step changes no parameter and never makes a specified value unspecified (R50, R49, R7; the parameters are a field of
State: log 6). -/
def Obligations.StepKeepsParameters : Prop :=
  ∀ s t : State, step s = .next t → t.config = s.config ∧ ∀ n, s.specified.get n = true → t.specified.get n = true

/-! ## Memory and state -/

/-- The array reads as last written; an external MEM answers from all its calls (R100, R80, R81, R84, R92, R7; the
model's choice: log 4, and log 3 for the canonical form). -/
def Obligations.MemoryReadsWhatWasWritten : Prop :=
  (∀ (a : Word) (v : Byte) (s : State),
    (readByte a s).2.accesses = s.accesses ++ [.read a] ∧ (writeByte a v s).accesses = s.accesses ++ [.write a v] ∧
    (s.config.memory = .array → (readByte a s).1 = Memory.read s.mem a.toNat ∧ (readByte a s).2.mem = s.mem ∧
      ∀ x, (readByte x (writeByte a v s)).1 = if x = a then v else (readByte x s).1) ∧
    (s.config.memory = .external → (readByte a s).1 = Config.externalRead s.mem s.history a ∧
      (readByte a s).2.history = s.history ++ [.read a] ∧ (writeByte a v s).history = s.history ++ [.write a v] ∧
      (readByte a s).2.mem = s.mem ∧ (writeByte a v s).mem = s.mem)) ∧
  (∀ (m : Memory) (a : Nat) (v : Byte), Memory.wf m = true → a < 65536 → Memory.wf (Memory.write m a v) = true) ∧
  (∀ m m' : Memory, Memory.wf m = true → Memory.wf m' = true →
    (∀ a, a < 65536 → Memory.read m a = Memory.read m' a) → m = m')

/-- A word read is little-endian and wraps; a signed read is the two's-complement byte (R82, R83). -/
def Obligations.WordAndSignedReads : Prop :=
  ∀ (a : Word) (s : State),
    (readWord a s).1.toNat = (s.answer [.read a] (a + 1)).toNat * 256 + (s.peek a).toNat ∧
    (readWord a s).2.accesses = s.accesses ++ [.read a, .read (a + 1)] ∧
    (readWord 0xFFFF s).1.toNat = (s.answer [.read 0xFFFF] 0x0000).toNat * 256 + (s.peek 0xFFFF).toNat ∧
    (readSigned a s).1 = (if (s.peek a).toNat < 128 then ((s.peek a).toNat : Int) else (s.peek a).toNat - 256) ∧
    -128 ≤ (readSigned a s).1 ∧ (readSigned a s).1 ≤ 127

/-- A word write stores the low byte first, at the lower address, and a word read returns it (R84, R90, R89). -/
def Obligations.WordWrites : Prop :=
  ∀ (a v : Word) (s : State),
    (writeWord a v s).accesses = s.accesses ++ [.write a (lo8 v), .write (a + 1) (hi8 v)] ∧
    (s.config.memory = .array → (readWord a (writeWord a v s)).1 = v) ∧ (writeWord a v s).pc = s.pc ∧
    (writeWord a v s).history = s.logged [.write a (lo8 v), .write (a + 1) (hi8 v)] ∧
    Frame { bytes := [a, a + 1] } s (writeWord a v s)

/-- A store over the next opcode is what the next step fetches (R103, R542). -/
def Obligations.StoreSeenByNextFetch : Prop :=
  ∀ (i : Instr) (n : Byte) (s : State), i.form = .ldHlN n → s.pair .hl = s.pc + 2 →
    ∃ t, exec i s = .next t ∧ t.pc = s.pc + 2 ∧
      (s.config.memory = .array → t.window = [n, s.peek (s.pc + 3), s.peek (s.pc + 4)])

/-- The values construction gives under both reset profiles (R60). -/
def Obligations.ConstructionValues : Prop :=
  ∀ (cfg : Config) (v : Drawn) (m : Memory),
    (∃ s, construct .powerOn cfg v m = .ok s ∧ s.pc = 0x0000 ∧ s.ime = false ∧ s.eiPending = false ∧
      ∀ n, s.specified.get n = false) ∧
    (∃ s, construct .postBootDmg cfg v m = .ok s ∧ s.pc = 0x0100 ∧ s.sp = 0xFFFE ∧ s.reg .a = 0x01 ∧
      s.fZ = true ∧ s.fN = false ∧ s.fH = true ∧ s.fC = true ∧ s.reg .b = 0x00 ∧ s.reg .c = 0x13 ∧
      s.reg .d = 0x00 ∧ s.reg .e = 0xD8 ∧ s.reg .h = 0x01 ∧ s.reg .l = 0x4D ∧ s.ime = false ∧ s.eiPending = false)

/-- A pair is a view of two registers, in both directions (R32, R33). -/
def Obligations.PairsAreViews : Prop :=
  ∀ (s : State) (v : Word) (b : Byte),
    (s.pair .bc).toNat = (s.reg .b).toNat * 256 + (s.reg .c).toNat ∧
    (s.pair .de).toNat = (s.reg .d).toNat * 256 + (s.reg .e).toNat ∧
    (s.pair .hl).toNat = (s.reg .h).toNat * 256 + (s.reg .l).toNat ∧
    (∀ p, (s.setPair p v).pair p = v ∧ (s.setPair p v).reg (Pair.hiReg p) = hi8 v ∧
      (s.setPair p v).reg (Pair.loReg p) = lo8 v ∧
      Frame { regs := [Pair.hiReg p, Pair.loReg p] } s (s.setPair p v)) ∧
    (∀ p, (s.setReg (Pair.hiReg p) b).pair p = wordOf b (s.reg (Pair.loReg p)) ∧
      (s.setReg (Pair.loReg p) b).pair p = wordOf (s.reg (Pair.hiReg p)) b)

/-! ## Loads, stores and the stack -/

/-- LD r,r' copies a register and changes nothing else (R370). -/
def Obligations.LdRegReg : Prop :=
  ∀ (i : Instr) (dst src : Reg8) (s : State), i.form = .ldRegReg dst src →
    encode i = [BitVec.ofNat 8 (0x40 + 8 * dst.code + src.code)] ∧
    ∃ t, exec i s = .next t ∧ t.reg dst = s.reg src ∧ t.pc = s.pc + 1 ∧ Report 1 1 [] s t ∧
      Frame { regs := [dst] } s t

/-- LD r,(HL) loads and LD (HL),r stores the byte at HL (R371, R372). -/
def Obligations.LdThroughHl : Prop :=
  (∀ (i : Instr) (dst : Reg8) (s : State), i.form = .ldRegHl dst →
    encode i = [BitVec.ofNat 8 (0x46 + 8 * dst.code)] ∧
    ∃ t, exec i s = .next t ∧ t.reg dst = s.data 1 (s.pair .hl) ∧ t.pc = s.pc + 1 ∧
      Report 1 2 [.read (s.pair .hl)] s t ∧ Frame { regs := [dst] } s t) ∧
  (∀ (i : Instr) (src : Reg8) (s : State), i.form = .ldHlReg src →
    encode i = [BitVec.ofNat 8 (0x70 + src.code)] ∧
    ∃ t, exec i s = .next t ∧ t.stores (s.pair .hl) (s.reg src) ∧ t.pc = s.pc + 1 ∧
      Report 1 2 [.write (s.pair .hl) (s.reg src)] s t ∧ Frame { bytes := [s.pair .hl] } s t)

/-- LD r,n and LD (HL),n put the immediate in a register or at HL (R373, R374). -/
def Obligations.LdImmediate : Prop :=
  (∀ (i : Instr) (dst : Reg8) (n : Byte) (s : State), i.form = .ldRegN dst n →
    encode i = [BitVec.ofNat 8 (0x06 + 8 * dst.code), n] ∧
    ∃ t, exec i s = .next t ∧ t.reg dst = n ∧ t.pc = s.pc + 2 ∧ Report 2 2 [] s t ∧ Frame { regs := [dst] } s t) ∧
  (∀ (i : Instr) (n : Byte) (s : State), i.form = .ldHlN n →
    encode i = [0x36, n] ∧
    ∃ t, exec i s = .next t ∧ t.stores (s.pair .hl) n ∧ t.pc = s.pc + 2 ∧
      Report 2 3 [.write (s.pair .hl) n] s t ∧ Frame { bytes := [s.pair .hl] } s t)

/-- LD A,(BC), (DE), (nn), LDH A,(n) and LD A,(C) load A from their address (R375, R376, R379, R382, R384). -/
def Obligations.AccumulatorLoads : Prop :=
  (∀ (i : Instr) (s : State), i.form = .ldAInd .bc → encode i = [0x0A] ∧
    ∃ t, exec i s = .next t ∧ t.reg .a = s.data 1 (s.pair .bc) ∧ t.pc = s.pc + 1 ∧
      Report 1 2 [.read (s.pair .bc)] s t ∧ Frame { regs := [.a] } s t) ∧
  (∀ (i : Instr) (s : State), i.form = .ldAInd .de → encode i = [0x1A] ∧
    ∃ t, exec i s = .next t ∧ t.reg .a = s.data 1 (s.pair .de) ∧ t.pc = s.pc + 1 ∧
      Report 1 2 [.read (s.pair .de)] s t ∧ Frame { regs := [.a] } s t) ∧
  (∀ (i : Instr) (nn : Word) (s : State), i.form = .ldANn nn → encode i = [0xFA, lo8 nn, hi8 nn] ∧
    ∃ t, exec i s = .next t ∧ t.reg .a = s.data 3 nn ∧ t.pc = s.pc + 3 ∧ Report 3 4 [.read nn] s t ∧
      Frame { regs := [.a] } s t) ∧
  (∀ (i : Instr) (n : Byte) (s : State), i.form = .ldhAN n → encode i = [0xF0, n] ∧
    ∃ t, exec i s = .next t ∧ t.reg .a = s.data 2 (wordOf 0xFF n) ∧ t.pc = s.pc + 2 ∧
      Report 2 3 [.read (wordOf 0xFF n)] s t ∧ Frame { regs := [.a] } s t) ∧
  (∀ (i : Instr) (s : State), i.form = .ldAC → encode i = [0xF2] ∧
    ∃ t, exec i s = .next t ∧ t.reg .a = s.data 1 (wordOf 0xFF (s.reg .c)) ∧ t.pc = s.pc + 1 ∧
      Report 1 2 [.read (wordOf 0xFF (s.reg .c))] s t ∧ Frame { regs := [.a] } s t)

/-- LD (BC),A, (DE),A, (nn),A, LDH (n),A and LD (C),A store A at their address (R377, R378, R380, R381, R383). -/
def Obligations.AccumulatorStores : Prop :=
  (∀ (i : Instr) (s : State), i.form = .ldIndA .bc → encode i = [0x02] ∧
    ∃ t, exec i s = .next t ∧ t.stores (s.pair .bc) (s.reg .a) ∧ t.pc = s.pc + 1 ∧
      Report 1 2 [.write (s.pair .bc) (s.reg .a)] s t ∧ Frame { bytes := [s.pair .bc] } s t) ∧
  (∀ (i : Instr) (s : State), i.form = .ldIndA .de → encode i = [0x12] ∧
    ∃ t, exec i s = .next t ∧ t.stores (s.pair .de) (s.reg .a) ∧ t.pc = s.pc + 1 ∧
      Report 1 2 [.write (s.pair .de) (s.reg .a)] s t ∧ Frame { bytes := [s.pair .de] } s t) ∧
  (∀ (i : Instr) (nn : Word) (s : State), i.form = .ldNnA nn → encode i = [0xEA, lo8 nn, hi8 nn] ∧
    ∃ t, exec i s = .next t ∧ t.stores nn (s.reg .a) ∧ t.pc = s.pc + 3 ∧ Report 3 4 [.write nn (s.reg .a)] s t ∧
      Frame { bytes := [nn] } s t) ∧
  (∀ (i : Instr) (n : Byte) (s : State), i.form = .ldhNA n → encode i = [0xE0, n] ∧
    ∃ t, exec i s = .next t ∧ t.stores (wordOf 0xFF n) (s.reg .a) ∧ t.pc = s.pc + 2 ∧
      Report 2 3 [.write (wordOf 0xFF n) (s.reg .a)] s t ∧ Frame { bytes := [wordOf 0xFF n] } s t) ∧
  (∀ (i : Instr) (s : State), i.form = .ldCA → encode i = [0xE2] ∧
    ∃ t, exec i s = .next t ∧ t.stores (wordOf 0xFF (s.reg .c)) (s.reg .a) ∧ t.pc = s.pc + 1 ∧
      Report 1 2 [.write (wordOf 0xFF (s.reg .c)) (s.reg .a)] s t ∧
      Frame { bytes := [wordOf 0xFF (s.reg .c)] } s t)

/-- LD A,(HL+), LD A,(HL-), LD (HL+),A and LD (HL-),A transfer A and step HL (R385, R386, R387, R388). -/
def Obligations.HlSteppingTransfers : Prop :=
  (∀ (i : Instr) (k : HlStep) (s : State), i.form = .ldAHlStep k →
    encode i = [match k with | .inc => 0x2A | .dec => 0x3A] ∧
    ∃ t, exec i s = .next t ∧ t.reg .a = s.data 1 (s.pair .hl) ∧
      t.pair .hl = (match k with | .inc => s.pair .hl + 1 | .dec => s.pair .hl - 1) ∧ t.pc = s.pc + 1 ∧
      Report 1 2 [.read (s.pair .hl)] s t ∧ Frame { regs := [.a, .h, .l] } s t) ∧
  (∀ (i : Instr) (k : HlStep) (s : State), i.form = .ldHlStepA k →
    encode i = [match k with | .inc => 0x22 | .dec => 0x32] ∧
    ∃ t, exec i s = .next t ∧ t.stores (s.pair .hl) (s.reg .a) ∧
      t.pair .hl = (match k with | .inc => s.pair .hl + 1 | .dec => s.pair .hl - 1) ∧ t.pc = s.pc + 1 ∧
      Report 1 2 [.write (s.pair .hl) (s.reg .a)] s t ∧
      Frame { regs := [.h, .l], bytes := [s.pair .hl] } s t)

/-- LD rp,nn puts the immediate in BC, DE, HL or SP (R389). -/
def Obligations.LdPairImmediate : Prop :=
  ∀ (i : Instr) (rp : Rp) (nn : Word) (s : State), i.form = .ldRpNn rp nn →
    encode i = [BitVec.ofNat 8 (0x01 + 16 * rp.code), lo8 nn, hi8 nn] ∧
    ∃ t, exec i s = .next t ∧ t.rp rp = nn ∧ t.pc = s.pc + 3 ∧ Report 3 3 [] s t ∧
      (∀ p, rp = .pair p → t.reg (Pair.hiReg p) = hi8 nn ∧ t.reg (Pair.loReg p) = lo8 nn) ∧
      Frame { regs := rp.regs, sp := rp.isSp } s t

/-- LD SP,HL copies HL to sp; LD (nn),SP stores sp little-endian (R390, R391). -/
def Obligations.StackPointerTransfers : Prop :=
  (∀ (i : Instr) (s : State), i.form = .ldSpHl → encode i = [0xF9] ∧
    ∃ t, exec i s = .next t ∧ t.sp = s.pair .hl ∧ t.pc = s.pc + 1 ∧ Report 1 2 [] s t ∧ Frame { sp := true } s t) ∧
  (∀ (i : Instr) (nn : Word) (s : State), i.form = .ldNnSp nn → encode i = [0x08, lo8 nn, hi8 nn] ∧
    ∃ t, exec i s = .next t ∧ t.stores nn (lo8 s.sp) ∧ t.stores (nn + 1) (hi8 s.sp) ∧ t.pc = s.pc + 3 ∧
      Report 3 5 [.write nn (lo8 s.sp), .write (nn + 1) (hi8 s.sp)] s t ∧ Frame { bytes := [nn, nn + 1] } s t)

/-- PUSH rp2 pushes BC, DE, HL or AF, the high byte first (R392, R394, R34). -/
def Obligations.PushStoresAPair : Prop :=
  ∀ (i : Instr) (rp : Rp2) (s : State), i.form = .push rp →
    encode i = [BitVec.ofNat 8 (0xC5 + 16 * rp.code)] ∧
    ∃ t, exec i s = .next t ∧ Pushed (s.pushValue rp) s t ∧ t.pc = s.pc + 1 ∧
      (s.config.memory = .array → t.peekWord t.sp = s.pushValue rp) ∧
      Report 1 4 (pushCalls (s.pushValue rp) s) s t ∧ Frame { sp := true, bytes := s.stackBytes } s t

/-- POP rp2 pops BC, DE, HL or AF, the low byte first (R395, R393). -/
def Obligations.PopLoadsAPair : Prop :=
  ∀ (i : Instr) (rp : Rp2) (s : State), i.form = .pop rp →
    encode i = [BitVec.ofNat 8 (0xC1 + 16 * rp.code)] ∧
    ∃ t, exec i s = .next t ∧ t.sp = s.sp + 2 ∧ t.pc = s.pc + 1 ∧ Report 1 3 (popCalls s) s t ∧
      (∀ p, rp = .pair p → t.reg (Pair.hiReg p) = hi8 s.popped ∧ t.reg (Pair.loReg p) = lo8 s.popped) ∧
      (rp = .af → t.reg .a = hi8 s.popped ∧ t.fZ = s.popped.getLsbD 7 ∧
        t.fN = s.popped.getLsbD 6 ∧ t.fH = s.popped.getLsbD 5 ∧ t.fC = s.popped.getLsbD 4) ∧
      Frame { regs := rp.regs, sp := true, flags := rp.flags } s t

/-- PUSH then POP, CALL then RET, and RST then RET restore what was saved (R392, R393, R206, R208, R211). -/
def Obligations.StackRoundTrips : Prop :=
  (∀ (i j : Instr) (x y : Rp2) (s : State), i.form = .push x → j.form = .pop y →
    ∃ t u, exec i s = .next t ∧ exec j t = .next u ∧ u.sp = s.sp ∧
      (s.config.memory = .array →
        u.pushValue y = (if y = .af then s.pushValue x &&& 0xFFF0 else s.pushValue x) ∧
        (x = y → (∀ r, u.reg r = s.reg r) ∧ ∀ f, u.flag f = s.flag f))) ∧
  (∀ (i j : Instr) (s : State), ((∃ nn, i.form = .call nn) ∨ ∃ y, i.form = .rst y) → j.form = .ret →
    ∃ t u, exec i s = .next t ∧ exec j t = .next u ∧ u.sp = s.sp ∧
      (s.config.memory = .array → u.pc = s.pc + BitVec.ofNat 16 i.length))

/-! ## 8-bit arithmetic and logic -/

/-- ADD and ADC: sum modulo 256, with the flags of the unwrapped sum (R270, R274, R275, R276, R277, R278, R279). -/
def Obligations.AddAndAdc : Prop :=
  ∀ (i : Instr) (op : AluOp) (src : AluSrc) (s : State), op = .add ∨ op = .adc → i.form = .alu op src →
    let a := (s.reg .a).toNat
    let b := (s.source src).toNat
    let cin := if op = .adc then s.fC.toNat else 0
    encode i = (if op = .adc then src.encoding 0x88 0xCE else src.encoding 0x80 0xC6) ∧
    ∃ t, exec i s = .next t ∧ (t.reg .a).toNat = (a + b + cin) % 256 ∧ t.fZ = decide ((a + b + cin) % 256 = 0) ∧
      t.fN = false ∧ t.fH = decide (a % 16 + b % 16 + cin > 0xF) ∧ t.fC = decide (a + b + cin > 0xFF) ∧
      t.pc = s.pc + BitVec.ofNat 16 src.bytes ∧ Report src.bytes src.cycles (src.reads s) s t ∧
      Frame { regs := [.a], flags := [.z, .n, .h, .c] } s t

/-- SUB and SBC: difference modulo 256, with the full-byte borrow (R271, R280, R281, R282, R283, R284, R285). -/
def Obligations.SubAndSbc : Prop :=
  ∀ (i : Instr) (op : AluOp) (src : AluSrc) (s : State), op = .sub ∨ op = .sbc → i.form = .alu op src →
    let a := (s.reg .a).toNat
    let b := (s.source src).toNat
    let cin := if op = .sbc then s.fC.toNat else 0
    encode i = (if op = .sbc then src.encoding 0x98 0xDE else src.encoding 0x90 0xD6) ∧
    ∃ t, exec i s = .next t ∧ ((t.reg .a).toNat : Int) = ((a : Int) - b - cin) % 256 ∧
      t.fZ = decide (((a : Int) - b - cin) % 256 = 0) ∧ t.fN = true ∧ t.fH = decide (a % 16 < b % 16 + cin) ∧
      t.fC = decide (a < b + cin) ∧
      t.pc = s.pc + BitVec.ofNat 16 src.bytes ∧ Report src.bytes src.cycles (src.reads s) s t ∧
      Frame { regs := [.a], flags := [.z, .n, .h, .c] } s t

/-- AND and OR: the bitwise result, fH set by AND, fC clear (R272, R273, R286, R287, R288, R289, R290, R291). -/
def Obligations.AndAndOr : Prop :=
  ∀ (i : Instr) (op : AluOp) (src : AluSrc) (s : State), op = .and ∨ op = .or → i.form = .alu op src →
    let res := if op = .and then s.reg .a &&& s.source src else s.reg .a ||| s.source src
    encode i = (if op = .and then src.encoding 0xA0 0xE6 else src.encoding 0xB0 0xF6) ∧
    ∃ t, exec i s = .next t ∧ t.reg .a = res ∧ t.fZ = decide (res = 0) ∧ t.fN = false ∧ t.fH = decide (op = .and) ∧
      t.fC = false ∧
      t.pc = s.pc + BitVec.ofNat 16 src.bytes ∧ Report src.bytes src.cycles (src.reads s) s t ∧
      Frame { regs := [.a], flags := [.z, .n, .h, .c] } s t

/-- CP: flags of the comparison, carry from the high nibbles, A unchanged (R241, R242, R243, R240). -/
def Obligations.CompareSetsFlagsOnly : Prop :=
  ∀ (i : Instr) (src : AluSrc) (s : State), i.form = .alu .cp src →
    let a := (s.reg .a).toNat
    let b := (s.source src).toNat
    encode i = src.encoding 0xB8 0xFE ∧
    ∃ t, exec i s = .next t ∧ t.fZ = decide (a = b) ∧ t.fN = true ∧ t.fH = decide (a % 16 < b % 16) ∧
      t.fC = decide (a / 16 < b / 16) ∧ (t.fC = true → a < b) ∧
      t.pc = s.pc + BitVec.ofNat 16 src.bytes ∧ Report src.bytes src.cycles (src.reads s) s t ∧
      Frame { flags := [.z, .n, .h, .c] } s t

/-- XOR: the bitwise result, fZ of it, the other flags clear; twice restores A (R245, R247, R248, R246). -/
def Obligations.ExclusiveOr : Prop :=
  (∀ (i : Instr) (src : AluSrc) (s : State), i.form = .alu .xor src →
    encode i = src.encoding 0xA8 0xEE ∧
    ∃ t, exec i s = .next t ∧ t.reg .a = s.reg .a ^^^ s.source src ∧
      t.fZ = decide (s.reg .a ^^^ s.source src = 0) ∧ t.fN = false ∧ t.fH = false ∧ t.fC = false ∧
      (src = .opd (.reg .a) → t.reg .a = 0) ∧
      t.pc = s.pc + BitVec.ofNat 16 src.bytes ∧ Report src.bytes src.cycles (src.reads s) s t ∧
      Frame { regs := [.a], flags := [.z, .n, .h, .c] } s t) ∧
  (∀ (i : Instr) (src : AluSrc) (s : State), i.form = .alu .xor src → src ≠ .opd (.reg .a) →
    s.config.memory = .array ∨ src ≠ .opd .atHL →
    ∃ t u, exec i s = .next t ∧ exec i t = .next u ∧ u.reg .a = s.reg .a ∧ u.fZ = decide (s.reg .a = 0))

/-- INC and DEC of a register or (HL): one up or down, carry unchanged (R292, R293, R294, R295). -/
def Obligations.IncrementAndDecrement : Prop :=
  (∀ (i : Instr) (o : Operand8) (s : State), i.form = .inc8 o →
    let v := s.operand 1 o
    encode i = [BitVec.ofNat 8 (0x04 + 8 * o.code)] ∧
    ∃ t, exec i s = .next t ∧ o.Holds (v + 1) s t ∧ t.fZ = decide (v + 1 = 0) ∧ t.fN = false ∧
      t.fH = decide (v.toNat % 16 = 0xF) ∧ t.pc = s.pc + 1 ∧ Report 1 (o.pick 1 3) (o.updates (v + 1) s) s t ∧
      Frame { regs := o.regs, flags := [.z, .n, .h], bytes := o.bytes s } s t) ∧
  (∀ (i : Instr) (o : Operand8) (s : State), i.form = .dec8 o →
    let v := s.operand 1 o
    encode i = [BitVec.ofNat 8 (0x05 + 8 * o.code)] ∧
    ∃ t, exec i s = .next t ∧ o.Holds (v - 1) s t ∧ t.fZ = decide (v - 1 = 0) ∧ t.fN = true ∧
      t.fH = decide (v.toNat % 16 = 0x0) ∧ t.pc = s.pc + 1 ∧ Report 1 (o.pick 1 3) (o.updates (v - 1) s) s t ∧
      Frame { regs := o.regs, flags := [.z, .n, .h], bytes := o.bytes s } s t)

/-- DAA: the adjustment of the spec for every A and every flag (R296). -/
def Obligations.DecimalAdjustAlgorithm : Prop :=
  ∀ (i : Instr) (s : State), i.form = .daa →
    let a := (s.reg .a).toNat
    let high := s.fC || decide (a > 0x99)
    let low := s.fH || decide (a % 16 > 0x9)
    let r : Int := if s.fN then (a : Int) - (if s.fC then 0x60 else 0) - (if s.fH then 0x06 else 0)
      else (a : Int) + (if high then 0x60 else 0) + (if low then 0x06 else 0)
    encode i = [0x27] ∧
    ∃ t, exec i s = .next t ∧ ((t.reg .a).toNat : Int) = r % 256 ∧ t.fZ = decide (r % 256 = 0) ∧ t.fH = false ∧
      t.fC = (if s.fN then s.fC else high) ∧ t.pc = s.pc + 1 ∧ Report 1 1 [] s t ∧
      Frame { regs := [.a], flags := [.z, .h, .c] } s t

/-- ADD, ADC, SUB or SBC followed by DAA is two-digit decimal arithmetic (R270, R271, R296). -/
def Obligations.DecimalArithmetic : Prop :=
  (∀ (i j : Instr) (op : AluOp) (src : AluSrc) (s : State), op = .add ∨ op = .adc → i.form = .alu op src →
    j.form = .daa → isDecimal (s.reg .a) → isDecimal (s.source src) →
    let sum := decimal (s.reg .a) + decimal (s.source src) + (if op = .adc then s.fC.toNat else 0)
    ∃ t u, exec i s = .next t ∧ exec j t = .next u ∧ isDecimal (u.reg .a) ∧ decimal (u.reg .a) = sum % 100 ∧
      u.fC = decide (sum > 99)) ∧
  (∀ (i j : Instr) (op : AluOp) (src : AluSrc) (s : State), op = .sub ∨ op = .sbc → i.form = .alu op src →
    j.form = .daa → isDecimal (s.reg .a) → isDecimal (s.source src) →
    let diff : Int := (decimal (s.reg .a) : Int) - decimal (s.source src) - (if op = .sbc then s.fC.toNat else 0)
    ∃ t u, exec i s = .next t ∧ exec j t = .next u ∧ isDecimal (u.reg .a) ∧
      (decimal (u.reg .a) : Int) = diff % 100 ∧ u.fC = decide (diff < 0))

/-- CPL complements A; SCF and CCF set and complement the carry (R297, R298, R299). -/
def Obligations.ComplementAndCarryFlag : Prop :=
  (∀ (i : Instr) (s : State), i.form = .cpl → encode i = [0x2F] ∧
    ∃ t, exec i s = .next t ∧ t.reg .a = s.reg .a ^^^ 0xFF ∧ t.fN = true ∧ t.fH = true ∧ t.pc = s.pc + 1 ∧
      Report 1 1 [] s t ∧ Frame { regs := [.a], flags := [.n, .h] } s t) ∧
  (∀ (i : Instr) (s : State), i.form = .scf → encode i = [0x37] ∧
    ∃ t, exec i s = .next t ∧ t.fN = false ∧ t.fH = false ∧ t.fC = true ∧ t.pc = s.pc + 1 ∧
      Report 1 1 [] s t ∧ Frame { flags := [.n, .h, .c] } s t) ∧
  (∀ (i : Instr) (s : State), i.form = .ccf → encode i = [0x3F] ∧
    ∃ t, exec i s = .next t ∧ t.fN = false ∧ t.fH = false ∧ t.fC = !s.fC ∧ t.pc = s.pc + 1 ∧
      Report 1 1 [] s t ∧ Frame { flags := [.n, .h, .c] } s t)

/-! ## Rotates, shifts and bits -/

/-- RLCA, RRCA, RLA and RRA rotate A and always clear fZ (R321, R322, R323, R324). -/
def Obligations.AccumulatorRotates : Prop :=
  ∀ (i : Instr) (k : AccRot) (s : State), i.form = .accRot k →
    encode i = [match k with | .rlca => 0x07 | .rrca => 0x0F | .rla => 0x17 | .rra => 0x1F] ∧
    ∃ t, exec i s = .next t ∧ (t.reg .a).toNat = k.cb.value (s.reg .a).toNat s.fC.toNat ∧
      t.fC = k.cb.out (s.reg .a) ∧ t.fZ = false ∧ t.fN = false ∧ t.fH = false ∧ t.pc = s.pc + 1 ∧
      Report 1 1 [] s t ∧ Frame { regs := [.a], flags := [.z, .n, .h, .c] } s t

/-- The CB rotates, shifts and SWAP on a register or (HL) (R325, R326, R327, R328, R329, R330, R331, R332). -/
def Obligations.CbRotatesAndShifts : Prop :=
  ∀ (i : Instr) (k : CbRot) (o : Operand8) (s : State), i.form = .cbRot k o →
    let v := s.operand 2 o
    let res : Byte := BitVec.ofNat 8 (k.value v.toNat s.fC.toNat)
    encode i = [0xCB, BitVec.ofNat 8 (8 * k.code + o.code)] ∧
    ∃ t, exec i s = .next t ∧ res.toNat = k.value v.toNat s.fC.toNat ∧ o.Holds res s t ∧
      t.fZ = decide (res = 0) ∧ t.fN = false ∧ t.fH = false ∧ t.fC = k.out v ∧ t.pc = s.pc + 2 ∧
      Report 2 (o.pick 2 4) (o.updates res s) s t ∧
      Frame { regs := o.regs, flags := [.z, .n, .h, .c], bytes := o.bytes s } s t

/-- BIT b tests a bit of a register or (HL) and writes only flags (R333). -/
def Obligations.BitTest : Prop :=
  ∀ (i : Instr) (b : Fin 8) (o : Operand8) (s : State), i.form = .bit b o →
    encode i = [0xCB, BitVec.ofNat 8 (0x40 + 8 * b.val + o.code)] ∧
    ∃ t, exec i s = .next t ∧ t.fZ = !(s.operand 2 o).getLsbD b.val ∧ t.fN = false ∧ t.fH = true ∧ t.pc = s.pc + 2 ∧
      Report 2 (o.pick 2 3) (o.reads s) s t ∧ Frame { flags := [.z, .n, .h] } s t

/-- RES b and SET b write one bit of a register or (HL) (R334, R335). -/
def Obligations.ResetAndSetBit : Prop :=
  ∀ (i : Instr) (b : Fin 8) (o : Operand8) (value : Bool) (s : State),
    i.form = (if value then .set b o else .res b o) →
    encode i = [0xCB, BitVec.ofNat 8 ((if value then 0xC0 else 0x80) + 8 * b.val + o.code)] ∧
    ∃ t res, exec i s = .next t ∧ o.Holds res s t ∧
      (∀ k, k < 8 → res.getLsbD k = if k = b.val then value else (s.operand 2 o).getLsbD k) ∧ t.pc = s.pc + 2 ∧
      Report 2 (o.pick 2 4) (o.updates res s) s t ∧ Frame { regs := o.regs, bytes := o.bytes s } s t

/-! ## 16-bit arithmetic -/

/-- INC rp and DEC rp: one up or down modulo 65536, no flag (R431, R432). -/
def Obligations.IncrementAndDecrementPair : Prop :=
  (∀ (i : Instr) (rp : Rp) (s : State), i.form = .inc16 rp →
    encode i = [BitVec.ofNat 8 (0x03 + 16 * rp.code)] ∧
    ∃ t, exec i s = .next t ∧ t.rp rp = s.rp rp + 1 ∧ t.pc = s.pc + 1 ∧ Report 1 2 [] s t ∧
      Frame { regs := rp.regs, sp := rp.isSp } s t) ∧
  (∀ (i : Instr) (rp : Rp) (s : State), i.form = .dec16 rp →
    encode i = [BitVec.ofNat 8 (0x0B + 16 * rp.code)] ∧
    ∃ t, exec i s = .next t ∧ t.rp rp = s.rp rp - 1 ∧ t.pc = s.pc + 1 ∧ Report 1 2 [] s t ∧
      Frame { regs := rp.regs, sp := rp.isSp } s t)

/-- ADD HL,rp: 16-bit sum, carries out of bits 11 and 15, fZ unchanged (R433). -/
def Obligations.AddToHl : Prop :=
  ∀ (i : Instr) (rp : Rp) (s : State), i.form = .addHl rp →
    let h := (s.pair .hl).toNat
    let v := (s.rp rp).toNat
    encode i = [BitVec.ofNat 8 (0x09 + 16 * rp.code)] ∧
    ∃ t, exec i s = .next t ∧ (t.pair .hl).toNat = (h + v) % 65536 ∧ t.fN = false ∧
      t.fH = decide (h % 4096 + v % 4096 > 0xFFF) ∧ t.fC = decide (h + v > 0xFFFF) ∧ t.pc = s.pc + 1 ∧
      Report 1 2 [] s t ∧ Frame { regs := [.h, .l], flags := [.n, .h, .c] } s t

/-- ADD SP,e and LD HL,SP+e: signed offset, flags of the unsigned low-byte add (R434, R435, R430). -/
def Obligations.StackPointerPlusOffset : Prop :=
  (∀ (i : Instr) (e : Byte) (s : State), i.form = .addSp e → encode i = [0xE8, e] ∧
    ∃ t, exec i s = .next t ∧ (t.sp.toNat : Int) = (s.sp.toNat + e.toInt) % 65536 ∧ t.fZ = false ∧ t.fN = false ∧
      t.fH = decide (s.sp.toNat % 16 + e.toNat % 16 > 0xF) ∧ t.fC = decide (s.sp.toNat % 256 + e.toNat > 0xFF) ∧
      t.pc = s.pc + 2 ∧ Report 2 4 [] s t ∧ Frame { sp := true, flags := [.z, .n, .h, .c] } s t) ∧
  (∀ (i : Instr) (e : Byte) (s : State), i.form = .ldHlSp e → encode i = [0xF8, e] ∧
    ∃ t, exec i s = .next t ∧ ((t.pair .hl).toNat : Int) = (s.sp.toNat + e.toInt) % 65536 ∧ t.fZ = false ∧
      t.fN = false ∧ t.fH = decide (s.sp.toNat % 16 + e.toNat % 16 > 0xF) ∧
      t.fC = decide (s.sp.toNat % 256 + e.toNat > 0xFF) ∧
      t.pc = s.pc + 2 ∧ Report 2 3 [] s t ∧ Frame { regs := [.h, .l], flags := [.z, .n, .h, .c] } s t)

/-! ## Control transfer -/

/-- JP nn, JR e and JP HL: pc at the target, nothing else changes (R201, R203, R205). -/
def Obligations.UnconditionalJumps : Prop :=
  (∀ (i : Instr) (nn : Word) (s : State), i.form = .jp nn → encode i = [0xC3, lo8 nn, hi8 nn] ∧
    ∃ t, exec i s = .next t ∧ t.pc = nn ∧ Report 3 4 [] s t ∧ Frame {} s t) ∧
  (∀ (i : Instr) (e : Byte) (s : State), i.form = .jr e → encode i = [0x18, e] ∧
    ∃ t, exec i s = .next t ∧ (t.pc.toNat : Int) = (s.pc.toNat + 2 + e.toInt) % 65536 ∧ Report 2 3 [] s t ∧
      Frame {} s t) ∧
  (∀ (i : Instr) (s : State), i.form = .jpHl → encode i = [0xE9] ∧
    ∃ t, exec i s = .next t ∧ t.pc = s.pair .hl ∧ Report 1 1 [] s t ∧ Frame {} s t)

/-- JP cc,nn and JR cc,e: taken or not by the flag, at the two costs (R202, R204, R200). -/
def Obligations.ConditionalJumps : Prop :=
  (∀ s : State, s.cond .nz = !s.fZ ∧ s.cond .z = s.fZ ∧ s.cond .nc = !s.fC ∧ s.cond .c = s.fC) ∧
  (∀ (i : Instr) (cc : Cond) (nn : Word) (s : State), i.form = .jpCc cc nn →
    encode i = [BitVec.ofNat 8 (0xC2 + 8 * cc.code), lo8 nn, hi8 nn] ∧
    ∃ t, exec i s = .next t ∧ t.pc = (if s.cond cc then nn else s.pc + 3) ∧
      Report 3 (if s.cond cc then 4 else 3) [] s t ∧ Frame {} s t) ∧
  (∀ (i : Instr) (cc : Cond) (e : Byte) (s : State), i.form = .jrCc cc e →
    encode i = [BitVec.ofNat 8 (0x20 + 8 * cc.code), e] ∧
    ∃ t, exec i s = .next t ∧
      (t.pc.toNat : Int) = (s.pc.toNat + 2 + (if s.cond cc then e.toInt else 0)) % 65536 ∧
      Report 2 (if s.cond cc then 3 else 2) [] s t ∧ Frame {} s t)

/-- CALL nn, CALL cc,nn and RST t push the return address and go to the target (R206, R207, R211). -/
def Obligations.CallsAndRestarts : Prop :=
  (∀ (i : Instr) (nn : Word) (s : State), i.form = .call nn → encode i = [0xCD, lo8 nn, hi8 nn] ∧
    ∃ t, exec i s = .next t ∧ t.pc = nn ∧ Pushed (s.pc + 3) s t ∧ Report 3 6 (pushCalls (s.pc + 3) s) s t ∧
      Frame { sp := true, bytes := s.stackBytes } s t) ∧
  (∀ (i : Instr) (cc : Cond) (nn : Word) (s : State), i.form = .callCc cc nn →
    encode i = [BitVec.ofNat 8 (0xC4 + 8 * cc.code), lo8 nn, hi8 nn] ∧
    ∃ t, exec i s = .next t ∧
      (s.cond cc = true → t.pc = nn ∧ Pushed (s.pc + 3) s t ∧ Report 3 6 (pushCalls (s.pc + 3) s) s t ∧
        Frame { sp := true, bytes := s.stackBytes } s t) ∧
      (s.cond cc = false → t.pc = s.pc + 3 ∧ Report 3 3 [] s t ∧ Frame {} s t)) ∧
  (∀ (i : Instr) (y : Fin 8) (s : State), i.form = .rst y → encode i = [BitVec.ofNat 8 (0xC7 + 8 * y.val)] ∧
    ∃ t, exec i s = .next t ∧ t.pc = BitVec.ofNat 16 (8 * y.val) ∧ Pushed (s.pc + 1) s t ∧
      Report 1 4 (pushCalls (s.pc + 1) s) s t ∧ Frame { sp := true, bytes := s.stackBytes } s t)

/-- RET, RET cc and RETI pop the return address; RETI also sets IME (R208, R209, R210). -/
def Obligations.Returns : Prop :=
  (∀ (i : Instr) (s : State), i.form = .ret → encode i = [0xC9] ∧
    ∃ t, exec i s = .next t ∧ t.pc = s.popped ∧ t.sp = s.sp + 2 ∧ Report 1 4 (popCalls s) s t ∧
      Frame { sp := true } s t) ∧
  (∀ (i : Instr) (cc : Cond) (s : State), i.form = .retCc cc → encode i = [BitVec.ofNat 8 (0xC0 + 8 * cc.code)] ∧
    ∃ t, exec i s = .next t ∧
      (s.cond cc = true → t.pc = s.popped ∧ t.sp = s.sp + 2 ∧ Report 1 5 (popCalls s) s t ∧
        Frame { sp := true } s t) ∧
      (s.cond cc = false → t.pc = s.pc + 1 ∧ Report 1 2 [] s t ∧ Frame {} s t)) ∧
  (∀ (i : Instr) (s : State), i.form = .reti → encode i = [0xD9] ∧
    ∃ t, exec i s = .next t ∧ t.pc = s.popped ∧ t.sp = s.sp + 2 ∧ t.ime = true ∧
      Report 1 4 (popCalls s) s t ∧ Frame { sp := true, ime := true } s t)

/-! ## System instructions and the interrupt port -/

/-- NOP, HALT, STOP, DI and EI (R460, R464, R462, R463, R465). -/
def Obligations.SystemInstructions : Prop :=
  (∀ (i : Instr) (s : State), i.form = .nop → encode i = [0x00] ∧
    ∃ t, exec i s = .next t ∧ t.pc = s.pc + 1 ∧ Report 1 1 [] s t ∧ Frame {} s t) ∧
  (∀ (i : Instr) (s : State), i.form = .halt → encode i = [0x76] ∧
    ∃ t, exec i s = .next t ∧ t.pc = s.pc ∧ Report 1 1 [] s t ∧ Frame {} s t) ∧
  (∀ (i : Instr) (n : Byte) (s : State), i.form = .stop n → encode i = [0x10, n] ∧
    ∃ t, exec i s = .next t ∧ t.pc = s.pc ∧ Report 1 1 [] s t ∧ Frame {} s t) ∧
  (∀ (i : Instr) (s : State), i.form = .di → encode i = [0xF3] ∧
    ∃ t, exec i s = .next t ∧ t.ime = false ∧ t.eiPending = false ∧ t.pc = s.pc + 1 ∧ Report 1 1 [] s t ∧
      Frame { ime := true, eiPending := true } s t) ∧
  (∀ (i : Instr) (s : State), i.form = .ei → encode i = [0xFB] ∧
    ∃ t, exec i s = .next t ∧ t.eiPending = true ∧ t.pc = s.pc + 1 ∧ Report 1 1 [] s t ∧
      Frame { eiPending := true } s t)

/-- interrupt(k): the return address pushed, IME cleared, pc at the fixed vector (R500, R501, R62; the model's
choice: log 5, 9, 10). -/
def Obligations.InterruptEntry : Prop :=
  ∀ (k : Nat) (s : State),
    (s.config.interruptPort = .absent → interrupt k s = .refused .interruptPortAbsent) ∧
    (s.config.interruptPort = .present → 4 < k → interrupt k s = .refused (.interruptIndexOutOfRange k)) ∧
    (s.config.interruptPort = .present → k ≤ 4 → s.ime = false → interrupt k s = .next (.notAccepted, s)) ∧
    (s.config.interruptPort = .present → k ≤ 4 → s.ime = true →
      (s.config.undefRead = .fault → s.specified.get .sp = false → interrupt k s = .fault (.undefinedRead .sp)) ∧
      (s.config.undefRead = .draw ∨ s.specified.get .sp = true →
        ∃ t, interrupt k s = .next (.accepted 5, t) ∧ t.pc = BitVec.ofNat 16 (0x0040 + 8 * k) ∧ t.ime = false ∧
          t.eiPending = false ∧ Pushed s.resumeAt s t ∧ Report 1 5 (pushCalls s.resumeAt s) s t ∧
          Frame { sp := true, ime := true, eiPending := true, bytes := s.stackBytes } s t))

/-- wake() steps past a HALT or STOP and changes nothing else (R503; the model's choice: log 5). -/
def Obligations.WakeLeavesHaltAndStop : Prop :=
  ∀ s : State,
    (s.config.interruptPort = .absent → wake s = .refused .interruptPortAbsent) ∧
    (s.config.interruptPort = .present →
      ∃ t, wake s = .next (.woken, t) ∧ t.pc = s.resumeAt ∧ Report 1 0 [] s t ∧ Frame {} s t)

/-- RETI returns from an accepted interrupt (R505, R210). -/
def Obligations.InterruptThenReti : Prop :=
  ∀ (k : Nat) (i : Instr) (s t : State), interrupt k s = .next (.accepted 5, t) → i.form = .reti →
    ∃ u, exec i t = .next u ∧ (s.config.memory = .array → u.pc = s.resumeAt) ∧ u.sp = s.sp ∧ u.ime = true ∧ u.eiPending = false ∧
      (∀ r, u.reg r = s.reg r) ∧ ∀ f, u.flag f = s.flag f
end

