-- ==== Sys2Proof/Laws/State.lean ====
section
/-!
SUPPORT. One lemma per field of the state per update: what `update` leaves in `field`. Every observation of a state that
an operation built is rewritten to observations of the state it began with, so that no later proof unfolds a record.
-/

namespace Sys2Proof.Machine

variable (s : State)

/-! ## setReg -/

@[simp] theorem State.setReg_reg (r r' : Reg8) (v : Byte) :
    (s.setReg r v).reg r' = if r' = r then v else s.reg r' := by
  cases r <;> cases r' <;> rfl

@[simp] theorem State.setReg_pc (r : Reg8) (v : Byte) : (s.setReg r v).pc = s.pc := by cases r <;> rfl

@[simp] theorem State.setReg_sp (r : Reg8) (v : Byte) : (s.setReg r v).sp = s.sp := by cases r <;> rfl

@[simp] theorem State.setReg_fZ (r : Reg8) (v : Byte) : (s.setReg r v).fZ = s.fZ := by cases r <;> rfl

@[simp] theorem State.setReg_fN (r : Reg8) (v : Byte) : (s.setReg r v).fN = s.fN := by cases r <;> rfl

@[simp] theorem State.setReg_fH (r : Reg8) (v : Byte) : (s.setReg r v).fH = s.fH := by cases r <;> rfl

@[simp] theorem State.setReg_fC (r : Reg8) (v : Byte) : (s.setReg r v).fC = s.fC := by cases r <;> rfl

@[simp] theorem State.setReg_ime (r : Reg8) (v : Byte) : (s.setReg r v).ime = s.ime := by cases r <;> rfl

@[simp] theorem State.setReg_eiPending (r : Reg8) (v : Byte) : (s.setReg r v).eiPending = s.eiPending := by cases r <;> rfl

@[simp] theorem State.setReg_mem (r : Reg8) (v : Byte) : (s.setReg r v).mem = s.mem := by cases r <;> rfl

@[simp] theorem State.setReg_config (r : Reg8) (v : Byte) : (s.setReg r v).config = s.config := by cases r <;> rfl

@[simp] theorem State.setReg_cost (r : Reg8) (v : Byte) : (s.setReg r v).cost = s.cost := by cases r <;> rfl

@[simp] theorem State.setReg_accesses (r : Reg8) (v : Byte) : (s.setReg r v).accesses = s.accesses := by cases r <;> rfl

@[simp] theorem State.setReg_specified (r : Reg8) (v : Byte) (n : Named) :
    (s.setReg r v).specified.get n = (s.specified.get n || decide (n = .reg r)) := by
  cases n with
  | reg r' => cases r <;> cases r' <;> simp [State.setReg, Specified.get]
  | _ => cases r <;> simp [State.setReg, Specified.get]

@[simp] theorem State.setReg_history (r : Reg8) (v : Byte) : (s.setReg r v).history = s.history := by cases r <;> rfl

@[simp] theorem State.setReg_answer (r : Reg8) (v : Byte) (l : List Access) (a : Word) : (s.setReg r v).answer l a = s.answer l a := by cases r <;> rfl

@[simp] theorem State.setReg_logged (r : Reg8) (v : Byte) (l : List Access) : (s.setReg r v).logged l = s.logged l := by cases r <;> rfl

/-! ## setPc -/

@[simp] theorem State.setPc_reg (v : Word) (r' : Reg8) : (s.setPc v).reg r' = s.reg r' := by cases r' <;> rfl

@[simp] theorem State.setPc_pc (v : Word) : (s.setPc v).pc = v := rfl

@[simp] theorem State.setPc_sp (v : Word) : (s.setPc v).sp = s.sp := rfl

@[simp] theorem State.setPc_fZ (v : Word) : (s.setPc v).fZ = s.fZ := rfl

@[simp] theorem State.setPc_fN (v : Word) : (s.setPc v).fN = s.fN := rfl

@[simp] theorem State.setPc_fH (v : Word) : (s.setPc v).fH = s.fH := rfl

@[simp] theorem State.setPc_fC (v : Word) : (s.setPc v).fC = s.fC := rfl

@[simp] theorem State.setPc_ime (v : Word) : (s.setPc v).ime = s.ime := rfl

@[simp] theorem State.setPc_eiPending (v : Word) : (s.setPc v).eiPending = s.eiPending := rfl

@[simp] theorem State.setPc_mem (v : Word) : (s.setPc v).mem = s.mem := rfl

@[simp] theorem State.setPc_config (v : Word) : (s.setPc v).config = s.config := rfl

@[simp] theorem State.setPc_cost (v : Word) : (s.setPc v).cost = s.cost := rfl

@[simp] theorem State.setPc_accesses (v : Word) : (s.setPc v).accesses = s.accesses := rfl

@[simp] theorem State.setPc_specified (v : Word) : (s.setPc v).specified = s.specified := rfl

@[simp] theorem State.setPc_history (v : Word) : (s.setPc v).history = s.history := rfl

@[simp] theorem State.setPc_answer (v : Word) (l : List Access) (a : Word) : (s.setPc v).answer l a = s.answer l a := rfl

@[simp] theorem State.setPc_logged (v : Word) (l : List Access) : (s.setPc v).logged l = s.logged l := rfl

/-! ## setSp -/

@[simp] theorem State.setSp_reg (v : Word) (r' : Reg8) : (s.setSp v).reg r' = s.reg r' := by cases r' <;> rfl

@[simp] theorem State.setSp_pc (v : Word) : (s.setSp v).pc = s.pc := rfl

@[simp] theorem State.setSp_sp (v : Word) : (s.setSp v).sp = v := rfl

@[simp] theorem State.setSp_fZ (v : Word) : (s.setSp v).fZ = s.fZ := rfl

@[simp] theorem State.setSp_fN (v : Word) : (s.setSp v).fN = s.fN := rfl

@[simp] theorem State.setSp_fH (v : Word) : (s.setSp v).fH = s.fH := rfl

@[simp] theorem State.setSp_fC (v : Word) : (s.setSp v).fC = s.fC := rfl

@[simp] theorem State.setSp_ime (v : Word) : (s.setSp v).ime = s.ime := rfl

@[simp] theorem State.setSp_eiPending (v : Word) : (s.setSp v).eiPending = s.eiPending := rfl

@[simp] theorem State.setSp_mem (v : Word) : (s.setSp v).mem = s.mem := rfl

@[simp] theorem State.setSp_config (v : Word) : (s.setSp v).config = s.config := rfl

@[simp] theorem State.setSp_cost (v : Word) : (s.setSp v).cost = s.cost := rfl

@[simp] theorem State.setSp_accesses (v : Word) : (s.setSp v).accesses = s.accesses := rfl

@[simp] theorem State.setSp_specified (v : Word) (n : Named) :
    (s.setSp v).specified.get n = (s.specified.get n || decide (n = .sp)) := by
  cases n with
  | reg r' => cases r' <;> simp [State.setSp, Specified.get]
  | _ => simp [State.setSp, Specified.get]

@[simp] theorem State.setSp_history (v : Word) : (s.setSp v).history = s.history := rfl

@[simp] theorem State.setSp_answer (v : Word) (l : List Access) (a : Word) : (s.setSp v).answer l a = s.answer l a := rfl

@[simp] theorem State.setSp_logged (v : Word) (l : List Access) : (s.setSp v).logged l = s.logged l := rfl

/-! ## setZ -/

@[simp] theorem State.setZ_reg (v : Bool) (r' : Reg8) : (s.setZ v).reg r' = s.reg r' := by cases r' <;> rfl

@[simp] theorem State.setZ_pc (v : Bool) : (s.setZ v).pc = s.pc := rfl

@[simp] theorem State.setZ_sp (v : Bool) : (s.setZ v).sp = s.sp := rfl

@[simp] theorem State.setZ_fZ (v : Bool) : (s.setZ v).fZ = v := rfl

@[simp] theorem State.setZ_fN (v : Bool) : (s.setZ v).fN = s.fN := rfl

@[simp] theorem State.setZ_fH (v : Bool) : (s.setZ v).fH = s.fH := rfl

@[simp] theorem State.setZ_fC (v : Bool) : (s.setZ v).fC = s.fC := rfl

@[simp] theorem State.setZ_ime (v : Bool) : (s.setZ v).ime = s.ime := rfl

@[simp] theorem State.setZ_eiPending (v : Bool) : (s.setZ v).eiPending = s.eiPending := rfl

@[simp] theorem State.setZ_mem (v : Bool) : (s.setZ v).mem = s.mem := rfl

@[simp] theorem State.setZ_config (v : Bool) : (s.setZ v).config = s.config := rfl

@[simp] theorem State.setZ_cost (v : Bool) : (s.setZ v).cost = s.cost := rfl

@[simp] theorem State.setZ_accesses (v : Bool) : (s.setZ v).accesses = s.accesses := rfl

@[simp] theorem State.setZ_specified (v : Bool) (n : Named) :
    (s.setZ v).specified.get n = (s.specified.get n || decide (n = .fZ)) := by
  cases n with
  | reg r' => cases r' <;> simp [State.setZ, Specified.get]
  | _ => simp [State.setZ, Specified.get]

@[simp] theorem State.setZ_history (v : Bool) : (s.setZ v).history = s.history := rfl

@[simp] theorem State.setZ_answer (v : Bool) (l : List Access) (a : Word) : (s.setZ v).answer l a = s.answer l a := rfl

@[simp] theorem State.setZ_logged (v : Bool) (l : List Access) : (s.setZ v).logged l = s.logged l := rfl

/-! ## setN -/

@[simp] theorem State.setN_reg (v : Bool) (r' : Reg8) : (s.setN v).reg r' = s.reg r' := by cases r' <;> rfl

@[simp] theorem State.setN_pc (v : Bool) : (s.setN v).pc = s.pc := rfl

@[simp] theorem State.setN_sp (v : Bool) : (s.setN v).sp = s.sp := rfl

@[simp] theorem State.setN_fZ (v : Bool) : (s.setN v).fZ = s.fZ := rfl

@[simp] theorem State.setN_fN (v : Bool) : (s.setN v).fN = v := rfl

@[simp] theorem State.setN_fH (v : Bool) : (s.setN v).fH = s.fH := rfl

@[simp] theorem State.setN_fC (v : Bool) : (s.setN v).fC = s.fC := rfl

@[simp] theorem State.setN_ime (v : Bool) : (s.setN v).ime = s.ime := rfl

@[simp] theorem State.setN_eiPending (v : Bool) : (s.setN v).eiPending = s.eiPending := rfl

@[simp] theorem State.setN_mem (v : Bool) : (s.setN v).mem = s.mem := rfl

@[simp] theorem State.setN_config (v : Bool) : (s.setN v).config = s.config := rfl

@[simp] theorem State.setN_cost (v : Bool) : (s.setN v).cost = s.cost := rfl

@[simp] theorem State.setN_accesses (v : Bool) : (s.setN v).accesses = s.accesses := rfl

@[simp] theorem State.setN_specified (v : Bool) (n : Named) :
    (s.setN v).specified.get n = (s.specified.get n || decide (n = .fN)) := by
  cases n with
  | reg r' => cases r' <;> simp [State.setN, Specified.get]
  | _ => simp [State.setN, Specified.get]

@[simp] theorem State.setN_history (v : Bool) : (s.setN v).history = s.history := rfl

@[simp] theorem State.setN_answer (v : Bool) (l : List Access) (a : Word) : (s.setN v).answer l a = s.answer l a := rfl

@[simp] theorem State.setN_logged (v : Bool) (l : List Access) : (s.setN v).logged l = s.logged l := rfl

/-! ## setH -/

@[simp] theorem State.setH_reg (v : Bool) (r' : Reg8) : (s.setH v).reg r' = s.reg r' := by cases r' <;> rfl

@[simp] theorem State.setH_pc (v : Bool) : (s.setH v).pc = s.pc := rfl

@[simp] theorem State.setH_sp (v : Bool) : (s.setH v).sp = s.sp := rfl

@[simp] theorem State.setH_fZ (v : Bool) : (s.setH v).fZ = s.fZ := rfl

@[simp] theorem State.setH_fN (v : Bool) : (s.setH v).fN = s.fN := rfl

@[simp] theorem State.setH_fH (v : Bool) : (s.setH v).fH = v := rfl

@[simp] theorem State.setH_fC (v : Bool) : (s.setH v).fC = s.fC := rfl

@[simp] theorem State.setH_ime (v : Bool) : (s.setH v).ime = s.ime := rfl

@[simp] theorem State.setH_eiPending (v : Bool) : (s.setH v).eiPending = s.eiPending := rfl

@[simp] theorem State.setH_mem (v : Bool) : (s.setH v).mem = s.mem := rfl

@[simp] theorem State.setH_config (v : Bool) : (s.setH v).config = s.config := rfl

@[simp] theorem State.setH_cost (v : Bool) : (s.setH v).cost = s.cost := rfl

@[simp] theorem State.setH_accesses (v : Bool) : (s.setH v).accesses = s.accesses := rfl

@[simp] theorem State.setH_specified (v : Bool) (n : Named) :
    (s.setH v).specified.get n = (s.specified.get n || decide (n = .fH)) := by
  cases n with
  | reg r' => cases r' <;> simp [State.setH, Specified.get]
  | _ => simp [State.setH, Specified.get]

@[simp] theorem State.setH_history (v : Bool) : (s.setH v).history = s.history := rfl

@[simp] theorem State.setH_answer (v : Bool) (l : List Access) (a : Word) : (s.setH v).answer l a = s.answer l a := rfl

@[simp] theorem State.setH_logged (v : Bool) (l : List Access) : (s.setH v).logged l = s.logged l := rfl

/-! ## setC -/

@[simp] theorem State.setC_reg (v : Bool) (r' : Reg8) : (s.setC v).reg r' = s.reg r' := by cases r' <;> rfl

@[simp] theorem State.setC_pc (v : Bool) : (s.setC v).pc = s.pc := rfl

@[simp] theorem State.setC_sp (v : Bool) : (s.setC v).sp = s.sp := rfl

@[simp] theorem State.setC_fZ (v : Bool) : (s.setC v).fZ = s.fZ := rfl

@[simp] theorem State.setC_fN (v : Bool) : (s.setC v).fN = s.fN := rfl

@[simp] theorem State.setC_fH (v : Bool) : (s.setC v).fH = s.fH := rfl

@[simp] theorem State.setC_fC (v : Bool) : (s.setC v).fC = v := rfl

@[simp] theorem State.setC_ime (v : Bool) : (s.setC v).ime = s.ime := rfl

@[simp] theorem State.setC_eiPending (v : Bool) : (s.setC v).eiPending = s.eiPending := rfl

@[simp] theorem State.setC_mem (v : Bool) : (s.setC v).mem = s.mem := rfl

@[simp] theorem State.setC_config (v : Bool) : (s.setC v).config = s.config := rfl

@[simp] theorem State.setC_cost (v : Bool) : (s.setC v).cost = s.cost := rfl

@[simp] theorem State.setC_accesses (v : Bool) : (s.setC v).accesses = s.accesses := rfl

@[simp] theorem State.setC_specified (v : Bool) (n : Named) :
    (s.setC v).specified.get n = (s.specified.get n || decide (n = .fC)) := by
  cases n with
  | reg r' => cases r' <;> simp [State.setC, Specified.get]
  | _ => simp [State.setC, Specified.get]

@[simp] theorem State.setC_history (v : Bool) : (s.setC v).history = s.history := rfl

@[simp] theorem State.setC_answer (v : Bool) (l : List Access) (a : Word) : (s.setC v).answer l a = s.answer l a := rfl

@[simp] theorem State.setC_logged (v : Bool) (l : List Access) : (s.setC v).logged l = s.logged l := rfl

/-! ## setIme -/

@[simp] theorem State.setIme_reg (v : Bool) (r' : Reg8) : (s.setIme v).reg r' = s.reg r' := by cases r' <;> rfl

@[simp] theorem State.setIme_pc (v : Bool) : (s.setIme v).pc = s.pc := rfl

@[simp] theorem State.setIme_sp (v : Bool) : (s.setIme v).sp = s.sp := rfl

@[simp] theorem State.setIme_fZ (v : Bool) : (s.setIme v).fZ = s.fZ := rfl

@[simp] theorem State.setIme_fN (v : Bool) : (s.setIme v).fN = s.fN := rfl

@[simp] theorem State.setIme_fH (v : Bool) : (s.setIme v).fH = s.fH := rfl

@[simp] theorem State.setIme_fC (v : Bool) : (s.setIme v).fC = s.fC := rfl

@[simp] theorem State.setIme_ime (v : Bool) : (s.setIme v).ime = v := rfl

@[simp] theorem State.setIme_eiPending (v : Bool) : (s.setIme v).eiPending = s.eiPending := rfl

@[simp] theorem State.setIme_mem (v : Bool) : (s.setIme v).mem = s.mem := rfl

@[simp] theorem State.setIme_config (v : Bool) : (s.setIme v).config = s.config := rfl

@[simp] theorem State.setIme_cost (v : Bool) : (s.setIme v).cost = s.cost := rfl

@[simp] theorem State.setIme_accesses (v : Bool) : (s.setIme v).accesses = s.accesses := rfl

@[simp] theorem State.setIme_specified (v : Bool) : (s.setIme v).specified = s.specified := rfl

@[simp] theorem State.setIme_history (v : Bool) : (s.setIme v).history = s.history := rfl

@[simp] theorem State.setIme_answer (v : Bool) (l : List Access) (a : Word) : (s.setIme v).answer l a = s.answer l a := rfl

@[simp] theorem State.setIme_logged (v : Bool) (l : List Access) : (s.setIme v).logged l = s.logged l := rfl

/-! ## setEiPending -/

@[simp] theorem State.setEiPending_reg (v : Bool) (r' : Reg8) : (s.setEiPending v).reg r' = s.reg r' := by cases r' <;> rfl

@[simp] theorem State.setEiPending_pc (v : Bool) : (s.setEiPending v).pc = s.pc := rfl

@[simp] theorem State.setEiPending_sp (v : Bool) : (s.setEiPending v).sp = s.sp := rfl

@[simp] theorem State.setEiPending_fZ (v : Bool) : (s.setEiPending v).fZ = s.fZ := rfl

@[simp] theorem State.setEiPending_fN (v : Bool) : (s.setEiPending v).fN = s.fN := rfl

@[simp] theorem State.setEiPending_fH (v : Bool) : (s.setEiPending v).fH = s.fH := rfl

@[simp] theorem State.setEiPending_fC (v : Bool) : (s.setEiPending v).fC = s.fC := rfl

@[simp] theorem State.setEiPending_ime (v : Bool) : (s.setEiPending v).ime = s.ime := rfl

@[simp] theorem State.setEiPending_eiPending (v : Bool) : (s.setEiPending v).eiPending = v := rfl

@[simp] theorem State.setEiPending_mem (v : Bool) : (s.setEiPending v).mem = s.mem := rfl

@[simp] theorem State.setEiPending_config (v : Bool) : (s.setEiPending v).config = s.config := rfl

@[simp] theorem State.setEiPending_cost (v : Bool) : (s.setEiPending v).cost = s.cost := rfl

@[simp] theorem State.setEiPending_accesses (v : Bool) : (s.setEiPending v).accesses = s.accesses := rfl

@[simp] theorem State.setEiPending_specified (v : Bool) : (s.setEiPending v).specified = s.specified := rfl

@[simp] theorem State.setEiPending_history (v : Bool) : (s.setEiPending v).history = s.history := rfl

@[simp] theorem State.setEiPending_answer (v : Bool) (l : List Access) (a : Word) : (s.setEiPending v).answer l a = s.answer l a := rfl

@[simp] theorem State.setEiPending_logged (v : Bool) (l : List Access) : (s.setEiPending v).logged l = s.logged l := rfl

/-! ## setMem -/

@[simp] theorem State.setMem_reg (m : Memory) (r' : Reg8) : (s.setMem m).reg r' = s.reg r' := by cases r' <;> rfl

@[simp] theorem State.setMem_pc (m : Memory) : (s.setMem m).pc = s.pc := rfl

@[simp] theorem State.setMem_sp (m : Memory) : (s.setMem m).sp = s.sp := rfl

@[simp] theorem State.setMem_fZ (m : Memory) : (s.setMem m).fZ = s.fZ := rfl

@[simp] theorem State.setMem_fN (m : Memory) : (s.setMem m).fN = s.fN := rfl

@[simp] theorem State.setMem_fH (m : Memory) : (s.setMem m).fH = s.fH := rfl

@[simp] theorem State.setMem_fC (m : Memory) : (s.setMem m).fC = s.fC := rfl

@[simp] theorem State.setMem_ime (m : Memory) : (s.setMem m).ime = s.ime := rfl

@[simp] theorem State.setMem_eiPending (m : Memory) : (s.setMem m).eiPending = s.eiPending := rfl

@[simp] theorem State.setMem_mem (m : Memory) : (s.setMem m).mem = m := rfl

@[simp] theorem State.setMem_config (m : Memory) : (s.setMem m).config = s.config := rfl

@[simp] theorem State.setMem_cost (m : Memory) : (s.setMem m).cost = s.cost := rfl

@[simp] theorem State.setMem_accesses (m : Memory) : (s.setMem m).accesses = s.accesses := rfl

@[simp] theorem State.setMem_specified (m : Memory) : (s.setMem m).specified = s.specified := rfl

@[simp] theorem State.setMem_history (m : Memory) : (s.setMem m).history = s.history := rfl

@[simp] theorem State.setMem_logged (m : Memory) (l : List Access) : (s.setMem m).logged l = s.logged l := rfl

/-! ## setCost -/

@[simp] theorem State.setCost_reg (c : Nat) (r' : Reg8) : (s.setCost c).reg r' = s.reg r' := by cases r' <;> rfl

@[simp] theorem State.setCost_pc (c : Nat) : (s.setCost c).pc = s.pc := rfl

@[simp] theorem State.setCost_sp (c : Nat) : (s.setCost c).sp = s.sp := rfl

@[simp] theorem State.setCost_fZ (c : Nat) : (s.setCost c).fZ = s.fZ := rfl

@[simp] theorem State.setCost_fN (c : Nat) : (s.setCost c).fN = s.fN := rfl

@[simp] theorem State.setCost_fH (c : Nat) : (s.setCost c).fH = s.fH := rfl

@[simp] theorem State.setCost_fC (c : Nat) : (s.setCost c).fC = s.fC := rfl

@[simp] theorem State.setCost_ime (c : Nat) : (s.setCost c).ime = s.ime := rfl

@[simp] theorem State.setCost_eiPending (c : Nat) : (s.setCost c).eiPending = s.eiPending := rfl

@[simp] theorem State.setCost_mem (c : Nat) : (s.setCost c).mem = s.mem := rfl

@[simp] theorem State.setCost_config (c : Nat) : (s.setCost c).config = s.config := rfl

@[simp] theorem State.setCost_cost (c : Nat) : (s.setCost c).cost = c := rfl

@[simp] theorem State.setCost_accesses (c : Nat) : (s.setCost c).accesses = s.accesses := rfl

@[simp] theorem State.setCost_specified (c : Nat) : (s.setCost c).specified = s.specified := rfl

@[simp] theorem State.setCost_history (c : Nat) : (s.setCost c).history = s.history := rfl

@[simp] theorem State.setCost_answer (c : Nat) (l : List Access) (a : Word) : (s.setCost c).answer l a = s.answer l a := rfl

@[simp] theorem State.setCost_logged (c : Nat) (l : List Access) : (s.setCost c).logged l = s.logged l := rfl

/-! ## record -/

@[simp] theorem State.record_reg (x : Access) (r' : Reg8) : (s.record x).reg r' = s.reg r' := by cases r' <;> rfl

@[simp] theorem State.record_pc (x : Access) : (s.record x).pc = s.pc := rfl

@[simp] theorem State.record_sp (x : Access) : (s.record x).sp = s.sp := rfl

@[simp] theorem State.record_fZ (x : Access) : (s.record x).fZ = s.fZ := rfl

@[simp] theorem State.record_fN (x : Access) : (s.record x).fN = s.fN := rfl

@[simp] theorem State.record_fH (x : Access) : (s.record x).fH = s.fH := rfl

@[simp] theorem State.record_fC (x : Access) : (s.record x).fC = s.fC := rfl

@[simp] theorem State.record_ime (x : Access) : (s.record x).ime = s.ime := rfl

@[simp] theorem State.record_eiPending (x : Access) : (s.record x).eiPending = s.eiPending := rfl

@[simp] theorem State.record_mem (x : Access) : (s.record x).mem = s.mem := rfl

@[simp] theorem State.record_config (x : Access) : (s.record x).config = s.config := rfl

@[simp] theorem State.record_cost (x : Access) : (s.record x).cost = s.cost := rfl

@[simp] theorem State.record_accesses (x : Access) : (s.record x).accesses = s.accesses ++ [x] := rfl

@[simp] theorem State.record_specified (x : Access) : (s.record x).specified = s.specified := rfl

@[simp] theorem State.record_history (x : Access) : (s.record x).history = s.logged [x] := rfl

@[simp] theorem State.record_answer (x : Access) (l : List Access) (a : Word) :
    (s.record x).answer l a = s.answer (x :: l) a := by
  simp only [State.answer, State.record, State.logged]
  cases s.config.memory <;> simp

@[simp] theorem State.record_logged (x : Access) (l : List Access) :
    (s.record x).logged l = s.logged (x :: l) := by
  simp only [State.record, State.logged]
  cases s.config.memory <;> simp

/-! ## beginCalls -/

@[simp] theorem State.beginCalls_reg (r' : Reg8) : (s.beginCalls).reg r' = s.reg r' := by cases r' <;> rfl

@[simp] theorem State.beginCalls_pc : (s.beginCalls).pc = s.pc := rfl

@[simp] theorem State.beginCalls_sp : (s.beginCalls).sp = s.sp := rfl

@[simp] theorem State.beginCalls_fZ : (s.beginCalls).fZ = s.fZ := rfl

@[simp] theorem State.beginCalls_fN : (s.beginCalls).fN = s.fN := rfl

@[simp] theorem State.beginCalls_fH : (s.beginCalls).fH = s.fH := rfl

@[simp] theorem State.beginCalls_fC : (s.beginCalls).fC = s.fC := rfl

@[simp] theorem State.beginCalls_ime : (s.beginCalls).ime = s.ime := rfl

@[simp] theorem State.beginCalls_eiPending : (s.beginCalls).eiPending = s.eiPending := rfl

@[simp] theorem State.beginCalls_mem : (s.beginCalls).mem = s.mem := rfl

@[simp] theorem State.beginCalls_config : (s.beginCalls).config = s.config := rfl

@[simp] theorem State.beginCalls_cost : (s.beginCalls).cost = s.cost := rfl

@[simp] theorem State.beginCalls_accesses : s.beginCalls.accesses = [] := rfl

@[simp] theorem State.beginCalls_specified : (s.beginCalls).specified = s.specified := rfl

@[simp] theorem State.beginCalls_history : (s.beginCalls).history = s.history := rfl

@[simp] theorem State.beginCalls_answer (l : List Access) (a : Word) : (s.beginCalls).answer l a = s.answer l a := rfl

@[simp] theorem State.beginCalls_logged (l : List Access) : (s.beginCalls).logged l = s.logged l := rfl

/-! ## What a read answers -/

@[simp] theorem State.peek_eq (a : Word) : s.peek a = s.answer [] a := rfl

/-- The array does not depend on the calls made. -/
@[simp] theorem State.answer_array {s : State} (h : s.config.memory = .array) (x : Access) (l : List Access) (a : Word) :
    s.answer (x :: l) a = s.answer [] a := by
  simp [State.answer, h]

/-- Nor on the fetch. -/
@[simp] theorem State.answer_fetch_array {s : State} (h : s.config.memory = .array) (n : Nat) (p : Word)
    (l : List Access) (a : Word) : s.answer (fetchReads n p ++ l) a = s.answer [] a := by
  simp [State.answer, h]

@[simp] theorem State.answer_fetchReads_array {s : State} (h : s.config.memory = .array) (n : Nat) (p a : Word) :
    s.answer (fetchReads n p) a = s.answer [] a := by
  simp [State.answer, h]

/-- An external `MEM` answers from its image and every call. -/
theorem State.answer_external {s : State} (h : s.config.memory = .external) (l : List Access) (a : Word) :
    s.answer l a = Config.externalRead s.mem (s.history ++ l) a := by
  simp [State.answer, h]

@[simp] theorem State.logged_nil : s.logged [] = s.history := by
  simp only [State.logged]
  cases s.config.memory <;> simp

theorem State.logged_array {s : State} (h : s.config.memory = .array) (l : List Access) : s.logged l = s.history := by
  simp [State.logged, h]

theorem State.logged_external {s : State} (h : s.config.memory = .external) (l : List Access) :
    s.logged l = s.history ++ l := by
  simp [State.logged, h]

@[simp] theorem State.stores_eq (a : Word) (v : Byte) : s.stores a v = (s.config.memory = .array → s.peek a = v) := rfl

/-! ## Flags by name -/

@[simp] theorem State.flag_z : s.flag .z = s.fZ := rfl

@[simp] theorem State.flag_n : s.flag .n = s.fN := rfl

@[simp] theorem State.flag_h : s.flag .h = s.fH := rfl

@[simp] theorem State.flag_c : s.flag .c = s.fC := rfl

end Sys2Proof.Machine
end

