-- ==== Sys2Proof/Laws/Memory.lean ====
section
/-!
SUPPORT. Memory as data: reading after a write, the canonical form and that a write keeps it, and that two memories in
canonical form that read alike are equal. Then the byte and word operations of the Memory Interface.
-/

namespace Sys2Proof.Machine

/-! ## Reading after a write -/

theorem Memory.read_erase (m : Memory) (a x : Nat) :
    Memory.read (Memory.erase m a) x = if x = a then Memory.unlisted else Memory.read m x := by
  induction m with
  | nil => simp [Memory.erase, Memory.read]
  | cons kv m ih =>
    obtain ⟨k, v⟩ := kv
    unfold Memory.erase
    by_cases hk : k = a
    · subst hk
      rw [if_pos rfl, ih]
      by_cases hx : x = k
      · simp [hx]
      · simp [hx, Memory.read, Ne.symm hx]
    · by_cases hx : x = a
      · subst hx
        simpa [hk, Memory.read] using ih
      · by_cases hkx : k = x
        · simp [hx, Memory.read, hkx]
        · simpa [hk, hx, Memory.read, hkx] using ih

theorem Memory.read_insert (m : Memory) (a x : Nat) (v : Byte) (h : Memory.read m a = Memory.unlisted)
    (hm : ∀ kv ∈ m, kv.1 ≠ a) :
    Memory.read (Memory.insert m a v) x = if x = a then v else Memory.read m x := by
  induction m with
  | nil =>
    by_cases hx : x = a
    · simp [Memory.insert, Memory.read, hx]
    · simp [Memory.insert, Memory.read, hx, Ne.symm hx]
  | cons kv m ih =>
    obtain ⟨k, w⟩ := kv
    have hka : k ≠ a := hm (k, w) (by simp)
    have ih := ih (by simpa [Memory.read, hka] using h) (fun kv h => hm kv (by simp [h]))
    unfold Memory.insert
    split
    · by_cases hx : x = a
      · simp [Memory.read, hx]
      · simp [Memory.read, hx, Ne.symm hx]
    · by_cases hkx : k = x
      · subst hkx
        simp [Memory.read, hka]
      · simpa [Memory.read, hkx] using ih

theorem Memory.erase_free (m : Memory) (a : Nat) : ∀ kv ∈ Memory.erase m a, kv.1 ≠ a := by
  induction m with
  | nil => simp [Memory.erase]
  | cons kv m ih =>
    obtain ⟨k, v⟩ := kv
    unfold Memory.erase
    split
    · exact ih
    · rename_i hk
      intro kv hkv
      rcases List.mem_cons.mp hkv with rfl | hkv
      · exact hk
      · exact ih kv hkv

/-- A read after a write: the value written at the address written, every other address as before. -/
theorem Memory.read_write (m : Memory) (a x : Nat) (v : Byte) :
    Memory.read (Memory.write m a v) x = if x = a then v else Memory.read m x := by
  unfold Memory.write
  split
  · rename_i hv
    rw [Memory.read_erase, hv]
  · rw [Memory.read_insert _ _ _ _ (by rw [Memory.read_erase]; simp) (Memory.erase_free m a), Memory.read_erase]
    by_cases hx : x = a <;> simp [hx]

/-! ## The canonical form -/

theorem Memory.wfFrom_cons {lo k : Nat} {v : Byte} {m : Memory} :
    Memory.wfFrom lo ((k, v) :: m) = true ↔
      lo ≤ k ∧ k < 65536 ∧ v ≠ Memory.unlisted ∧ Memory.wfFrom (k + 1) m = true := by
  simp [Memory.wfFrom, and_assoc]

theorem Memory.wfFrom_mono {lo lo' : Nat} {m : Memory} (hl : lo' ≤ lo) (h : Memory.wfFrom lo m = true) :
    Memory.wfFrom lo' m = true := by
  cases m with
  | nil => rfl
  | cons kv m =>
    rw [Memory.wfFrom_cons] at h ⊢
    exact ⟨by omega, h.2⟩

theorem Memory.wfFrom_erase (m : Memory) (a : Nat) :
    ∀ lo, Memory.wfFrom lo m = true → Memory.wfFrom lo (Memory.erase m a) = true := by
  induction m with
  | nil => simp [Memory.erase]
  | cons kv m ih =>
    intro lo h
    rw [Memory.wfFrom_cons] at h
    unfold Memory.erase
    split
    · exact ih lo (Memory.wfFrom_mono (by omega) h.2.2.2)
    · exact Memory.wfFrom_cons.mpr ⟨h.1, h.2.1, h.2.2.1, ih _ h.2.2.2⟩

theorem Memory.wfFrom_insert (m : Memory) (a : Nat) (v : Byte) (ha : a < 65536) (hv : v ≠ Memory.unlisted)
    (hm : ∀ kv ∈ m, kv.1 ≠ a) :
    ∀ lo, lo ≤ a → Memory.wfFrom lo m = true → Memory.wfFrom lo (Memory.insert m a v) = true := by
  induction m with
  | nil => intro lo hlo _; exact Memory.wfFrom_cons.mpr ⟨hlo, ha, hv, rfl⟩
  | cons kv m ih =>
    obtain ⟨k, w⟩ := kv
    intro lo hlo h
    have hka : k ≠ a := hm (k, w) (by simp)
    rw [Memory.wfFrom_cons] at h
    unfold Memory.insert
    split
    · exact Memory.wfFrom_cons.mpr ⟨hlo, ha, hv, Memory.wfFrom_cons.mpr ⟨by omega, h.2⟩⟩
    · exact Memory.wfFrom_cons.mpr
        ⟨h.1, h.2.1, h.2.2.1, ih (fun kv h => hm kv (by simp [h])) _ (by omega) h.2.2.2⟩

/-- A write inside the address space keeps the canonical form. -/
theorem Memory.wf_write {m : Memory} (h : Memory.wf m = true) (a : Nat) (v : Byte) (ha : a < 65536) :
    Memory.wf (Memory.write m a v) = true := by
  unfold Memory.write Memory.wf
  split
  · exact Memory.wfFrom_erase m a 0 h
  · rename_i hv
    exact Memory.wfFrom_insert _ a v ha hv (Memory.erase_free m a) 0 (by omega) (Memory.wfFrom_erase m a 0 h)

/-- `State.reset`'s memory is in canonical form. -/
theorem Memory.wf_reset : Memory.wf State.reset.mem = true := rfl

theorem Memory.read_below {m : Memory} :
    ∀ {lo x : Nat}, Memory.wfFrom lo m = true → x < lo → Memory.read m x = Memory.unlisted := by
  induction m with
  | nil => intros; rfl
  | cons kv m ih =>
    intro lo x h hx
    rw [Memory.wfFrom_cons] at h
    simp only [Memory.read]
    rw [if_neg (by omega)]
    exact ih h.2.2.2 (by omega)

theorem Memory.ext_from (m m' : Memory) :
    ∀ lo, Memory.wfFrom lo m = true → Memory.wfFrom lo m' = true →
      (∀ a, a < 65536 → Memory.read m a = Memory.read m' a) → m = m' := by
  induction m generalizing m' with
  | nil =>
    intro lo _ h' hr
    cases m' with
    | nil => rfl
    | cons kv m' =>
      obtain ⟨k, v⟩ := kv
      rw [Memory.wfFrom_cons] at h'
      have := hr k h'.2.1
      simp [Memory.read] at this
      exact absurd this.symm h'.2.2.1
  | cons kv m ih =>
    obtain ⟨k, v⟩ := kv
    intro lo h h' hr
    rw [Memory.wfFrom_cons] at h
    cases m' with
    | nil =>
      have := hr k h.2.1
      simp [Memory.read] at this
      exact absurd this h.2.2.1
    | cons kv' m' =>
      obtain ⟨k', v'⟩ := kv'
      rw [Memory.wfFrom_cons] at h'
      have hk : k = k' := by
        rcases Nat.lt_trichotomy k k' with hlt | heq | hgt
        · have := hr k h.2.1
          simp [Memory.read, show ¬ k' = k by omega, Memory.read_below h'.2.2.2 (show k < k' + 1 by omega)] at this
          exact absurd this h.2.2.1
        · exact heq
        · have := hr k' h'.2.1
          simp [Memory.read, show ¬ k = k' by omega, Memory.read_below h.2.2.2 (show k' < k + 1 by omega)] at this
          exact absurd this.symm h'.2.2.1
      subst hk
      have hv : v = v' := by simpa [Memory.read] using hr k h.2.1
      subst hv
      have : m = m' := by
        refine ih m' (k + 1) h.2.2.2 h'.2.2.2 (fun a ha => ?_)
        by_cases hak : a = k
        · rw [hak, Memory.read_below h.2.2.2 (by omega), Memory.read_below h'.2.2.2 (by omega)]
        · simpa [Memory.read, Ne.symm hak] using hr a ha
      rw [this]

/-! ## The Memory Interface -/

@[simp] theorem readByte_fst (a : Word) (s : State) : (readByte a s).1 = s.peek a := rfl

@[simp] theorem readByte_snd (a : Word) (s : State) : (readByte a s).2 = s.record (.read a) := rfl

/-- The field by field effect of putting a byte in the array. -/
theorem State.store_array {s : State} (h : s.config.memory = .array) (a : Word) (v : Byte) :
    s.store a v = s.setMem (Memory.write s.mem a.toNat v) := by
  simp [State.store, h]

theorem State.store_external {s : State} (h : s.config.memory = .external) (a : Word) (v : Byte) : s.store a v = s := by
  simp [State.store, h]

/-- With the array, a byte write changes what one address answers. -/
@[simp] theorem writeByte_answer_array {s : State} (h : s.config.memory = .array) (a x : Word) (v : Byte)
    (l : List Access) : (writeByte a v s).answer l x = if x = a then v else s.answer [] x := by
  rw [writeByte, State.record_answer, State.store_array h]
  simp [State.answer, h, Memory.read_write, BitVec.toNat_inj]

/-- An external `MEM` answers later reads knowing of the write. -/
@[simp] theorem writeByte_answer_external {s : State} (h : s.config.memory = .external) (a x : Word) (v : Byte)
    (l : List Access) : (writeByte a v s).answer l x = s.answer (.write a v :: l) x := by
  rw [writeByte, State.record_answer, State.store_external h]

@[simp] theorem writeByte_reg (a : Word) (v : Byte) (s : State) (r : Reg8) : (writeByte a v s).reg r = s.reg r := by
  simp only [writeByte, State.store]
  cases s.config.memory <;> simp

@[simp] theorem writeByte_pc (a : Word) (v : Byte) (s : State) : (writeByte a v s).pc = s.pc := by
  simp only [writeByte, State.store]
  cases s.config.memory <;> rfl

@[simp] theorem writeByte_sp (a : Word) (v : Byte) (s : State) : (writeByte a v s).sp = s.sp := by
  simp only [writeByte, State.store]
  cases s.config.memory <;> rfl

@[simp] theorem writeByte_fZ (a : Word) (v : Byte) (s : State) : (writeByte a v s).fZ = s.fZ := by
  simp only [writeByte, State.store]
  cases s.config.memory <;> rfl

@[simp] theorem writeByte_fN (a : Word) (v : Byte) (s : State) : (writeByte a v s).fN = s.fN := by
  simp only [writeByte, State.store]
  cases s.config.memory <;> rfl

@[simp] theorem writeByte_fH (a : Word) (v : Byte) (s : State) : (writeByte a v s).fH = s.fH := by
  simp only [writeByte, State.store]
  cases s.config.memory <;> rfl

@[simp] theorem writeByte_fC (a : Word) (v : Byte) (s : State) : (writeByte a v s).fC = s.fC := by
  simp only [writeByte, State.store]
  cases s.config.memory <;> rfl

@[simp] theorem writeByte_ime (a : Word) (v : Byte) (s : State) : (writeByte a v s).ime = s.ime := by
  simp only [writeByte, State.store]
  cases s.config.memory <;> rfl

@[simp] theorem writeByte_eiPending (a : Word) (v : Byte) (s : State) :
    (writeByte a v s).eiPending = s.eiPending := by
  simp only [writeByte, State.store]
  cases s.config.memory <;> rfl

@[simp] theorem writeByte_specified (a : Word) (v : Byte) (s : State) :
    (writeByte a v s).specified = s.specified := by
  simp only [writeByte, State.store]
  cases s.config.memory <;> rfl

@[simp] theorem writeByte_config (a : Word) (v : Byte) (s : State) : (writeByte a v s).config = s.config := by
  simp only [writeByte, State.store]
  cases s.config.memory <;> rfl

@[simp] theorem writeByte_cost (a : Word) (v : Byte) (s : State) : (writeByte a v s).cost = s.cost := by
  simp only [writeByte, State.store]
  cases s.config.memory <;> rfl

@[simp] theorem writeByte_accesses (a : Word) (v : Byte) (s : State) :
    (writeByte a v s).accesses = s.accesses ++ [.write a v] := by
  simp only [writeByte, State.store]
  cases s.config.memory <;> rfl

@[simp] theorem writeByte_logged (a : Word) (v : Byte) (s : State) (l : List Access) :
    (writeByte a v s).logged l = s.logged (.write a v :: l) := by
  simp only [writeByte, State.store]
  cases s.config.memory <;> simp

@[simp] theorem writeByte_history (a : Word) (v : Byte) (s : State) :
    (writeByte a v s).history = s.logged [.write a v] := by
  simp only [writeByte, State.store]
  cases s.config.memory <;> simp

/-- An external `MEM` keeps its image: what a write does is in its answers. -/
@[simp] theorem writeByte_mem_external (a : Word) (v : Byte) {s : State} (h : s.config.memory = .external) :
    (writeByte a v s).mem = s.mem := by
  rw [writeByte, State.store_external h, State.record_mem]

/-- A byte write keeps the canonical form. -/
@[simp] theorem writeByte_wf (a : Word) (v : Byte) {s : State} (h : Memory.wf s.mem = true) :
    Memory.wf (writeByte a v s).mem = true := by
  simp only [writeByte, State.store]
  cases s.config.memory
  · exact Memory.wf_write h _ _ a.isLt
  · exact h

end Sys2Proof.Machine
end

