-- ==== Sys2Proof/Laws/Ops.lean ====
section
/-!
SUPPORT. One lemma for each shared operation that says once everything it does: the fetch a meaning begins with, words,
pairs, the F byte, the coded operand, the stack, and the end of a meaning. Later proofs cite these and do not unfold.
-/

namespace Sys2Proof.Machine

/-! ## Words and their halves -/

@[simp] theorem hi8_wordOf (h l : Byte) : hi8 (wordOf h l) = h := by
  simp only [hi8, wordOf]
  exact BitVec.extractLsb'_append_eq_left

@[simp] theorem lo8_wordOf (h l : Byte) : lo8 (wordOf h l) = l := by
  simp only [lo8, wordOf]
  exact BitVec.extractLsb'_append_eq_right

@[simp] theorem wordOf_halves (v : Word) : wordOf (hi8 v) (lo8 v) = v := by
  simp only [hi8, lo8, wordOf]
  ext i hi
  simp only [BitVec.getElem_append, BitVec.getElem_extractLsb']
  split <;> simp_all [BitVec.getLsbD_eq_getElem]

/-- A word is `hi*256 + lo` (R32). -/
theorem wordOf_toNat (h l : Byte) : (wordOf h l).toNat = h.toNat * 256 + l.toNat := by
  have := l.isLt
  simp only [wordOf, BitVec.toNat_append, Nat.shiftLeft_eq]
  rw [Nat.mul_comm h.toNat, ← Nat.two_pow_add_eq_or_of_lt this]

/-! ## Fetching -/

theorem fetchBytes_pc (n : Nat) (s : State) : (fetchBytes n s).pc = s.pc + BitVec.ofNat 16 n := by
  induction n generalizing s with
  | zero => simp [fetchBytes]
  | succ n ih =>
    simp only [fetchBytes, ih, fetch8, State.setPc_pc, BitVec.add_assoc]
    congr 1
    rw [BitVec.add_comm, BitVec.ofNat_add]
    rfl

theorem fetchBytes_accesses (n : Nat) (s : State) : (fetchBytes n s).accesses = s.accesses ++ fetchReads n s.pc := by
  induction n generalizing s with
  | zero => simp [fetchBytes, fetchReads]
  | succ n ih => simp [fetchBytes, ih, fetch8, fetchReads]

theorem fetchBytes_reg (n : Nat) (s : State) (r : Reg8) : (fetchBytes n s).reg r = s.reg r := by
  induction n generalizing s with
  | zero => rfl
  | succ n ih => simp [fetchBytes, ih, fetch8]

theorem fetchBytes_sp (n : Nat) (s : State) : (fetchBytes n s).sp = s.sp := by
  induction n generalizing s with
  | zero => rfl
  | succ n ih => simp [fetchBytes, ih, fetch8]

theorem fetchBytes_fZ (n : Nat) (s : State) : (fetchBytes n s).fZ = s.fZ := by
  induction n generalizing s with
  | zero => rfl
  | succ n ih => simp [fetchBytes, ih, fetch8]

theorem fetchBytes_fN (n : Nat) (s : State) : (fetchBytes n s).fN = s.fN := by
  induction n generalizing s with
  | zero => rfl
  | succ n ih => simp [fetchBytes, ih, fetch8]

theorem fetchBytes_fH (n : Nat) (s : State) : (fetchBytes n s).fH = s.fH := by
  induction n generalizing s with
  | zero => rfl
  | succ n ih => simp [fetchBytes, ih, fetch8]

theorem fetchBytes_fC (n : Nat) (s : State) : (fetchBytes n s).fC = s.fC := by
  induction n generalizing s with
  | zero => rfl
  | succ n ih => simp [fetchBytes, ih, fetch8]

theorem fetchBytes_ime (n : Nat) (s : State) : (fetchBytes n s).ime = s.ime := by
  induction n generalizing s with
  | zero => rfl
  | succ n ih => simp [fetchBytes, ih, fetch8]

theorem fetchBytes_eiPending (n : Nat) (s : State) : (fetchBytes n s).eiPending = s.eiPending := by
  induction n generalizing s with
  | zero => rfl
  | succ n ih => simp [fetchBytes, ih, fetch8]

theorem fetchBytes_mem (n : Nat) (s : State) : (fetchBytes n s).mem = s.mem := by
  induction n generalizing s with
  | zero => rfl
  | succ n ih => simp [fetchBytes, ih, fetch8]

theorem fetchBytes_specified (n : Nat) (s : State) : (fetchBytes n s).specified = s.specified := by
  induction n generalizing s with
  | zero => rfl
  | succ n ih => simp [fetchBytes, ih, fetch8]

theorem fetchBytes_config (n : Nat) (s : State) : (fetchBytes n s).config = s.config := by
  induction n generalizing s with
  | zero => rfl
  | succ n ih => simp [fetchBytes, ih, fetch8]

theorem fetchBytes_cost (n : Nat) (s : State) : (fetchBytes n s).cost = s.cost := by
  induction n generalizing s with
  | zero => rfl
  | succ n ih => simp [fetchBytes, ih, fetch8]

@[simp] theorem State.fetched_pc (n : Nat) (s : State) : (s.fetched n).pc = s.pc + BitVec.ofNat 16 n :=
  fetchBytes_pc n s.beginCalls

@[simp] theorem State.fetched_accesses (n : Nat) (s : State) : (s.fetched n).accesses = fetchReads n s.pc := by
  simp [State.fetched, fetchBytes_accesses]

@[simp] theorem State.fetched_reg (n : Nat) (s : State) (r : Reg8) : (s.fetched n).reg r = s.reg r := by
  simp [State.fetched, fetchBytes_reg]

@[simp] theorem State.fetched_sp (n : Nat) (s : State) : (s.fetched n).sp = s.sp :=
  fetchBytes_sp n s.beginCalls

@[simp] theorem State.fetched_fZ (n : Nat) (s : State) : (s.fetched n).fZ = s.fZ :=
  fetchBytes_fZ n s.beginCalls

@[simp] theorem State.fetched_fN (n : Nat) (s : State) : (s.fetched n).fN = s.fN :=
  fetchBytes_fN n s.beginCalls

@[simp] theorem State.fetched_fH (n : Nat) (s : State) : (s.fetched n).fH = s.fH :=
  fetchBytes_fH n s.beginCalls

@[simp] theorem State.fetched_fC (n : Nat) (s : State) : (s.fetched n).fC = s.fC :=
  fetchBytes_fC n s.beginCalls

@[simp] theorem State.fetched_ime (n : Nat) (s : State) : (s.fetched n).ime = s.ime :=
  fetchBytes_ime n s.beginCalls

@[simp] theorem State.fetched_eiPending (n : Nat) (s : State) : (s.fetched n).eiPending = s.eiPending :=
  fetchBytes_eiPending n s.beginCalls

@[simp] theorem State.fetched_mem (n : Nat) (s : State) : (s.fetched n).mem = s.mem :=
  fetchBytes_mem n s.beginCalls

@[simp] theorem State.fetched_specified (n : Nat) (s : State) : (s.fetched n).specified = s.specified :=
  fetchBytes_specified n s.beginCalls

@[simp] theorem State.fetched_config (n : Nat) (s : State) : (s.fetched n).config = s.config :=
  fetchBytes_config n s.beginCalls

@[simp] theorem State.fetched_cost (n : Nat) (s : State) : (s.fetched n).cost = s.cost :=
  fetchBytes_cost n s.beginCalls

theorem fetchBytes_answer (n : Nat) (s : State) (l : List Access) (a : Word) :
    (fetchBytes n s).answer l a = s.answer (fetchReads n s.pc ++ l) a := by
  induction n generalizing s with
  | zero => rfl
  | succ n ih => simp [fetchBytes, ih, fetch8, fetchReads]

theorem fetchBytes_logged (n : Nat) (s : State) (l : List Access) :
    (fetchBytes n s).logged l = s.logged (fetchReads n s.pc ++ l) := by
  induction n generalizing s with
  | zero => rfl
  | succ n ih => simp [fetchBytes, ih, fetch8, fetchReads]

/-- All that a step without a descriptor does: the observations of this update are those of `beginCalls` and `record`. -/
@[simp] theorem State.opcodeRead_eq (s : State) : s.opcodeRead = s.beginCalls.record (.read s.pc) := rfl

/-- With the array, a second step there does the same. -/
theorem State.opcodeRead_again {s : State} (h : s.config.memory = .array) : s.opcodeRead.opcodeRead = s.opcodeRead := by
  simp [State.record, State.beginCalls, State.logged, h]

/-- A read after the fetch is a read after its calls. -/
@[simp] theorem State.fetched_answer (n : Nat) (s : State) (l : List Access) (a : Word) :
    (s.fetched n).answer l a = s.answer (fetchReads n s.pc ++ l) a := by
  simp [State.fetched, fetchBytes_answer]

@[simp] theorem State.fetched_logged (n : Nat) (s : State) (l : List Access) :
    (s.fetched n).logged l = s.logged (fetchReads n s.pc ++ l) := by
  simp [State.fetched, fetchBytes_logged]

/-- What an external `MEM` was told by the fetch. -/
@[simp] theorem State.fetched_history (n : Nat) (s : State) : (s.fetched n).history = s.logged (fetchReads n s.pc) := by
  have h := State.fetched_logged n s []
  rwa [State.logged_nil, List.append_nil] at h

/-! ## Words in memory -/

@[simp] theorem readWord_fst (a : Word) (s : State) : (readWord a s).1 = s.peekWord a := by
  simp [readWord, State.peekWord]

@[simp] theorem readWord_snd (a : Word) (s : State) :
    (readWord a s).2 = (s.record (.read a)).record (.read (a + 1)) := rfl

@[simp] theorem writeWord_eq (a v : Word) (s : State) :
    writeWord a v s = writeByte (a + 1) (hi8 v) (writeByte a (lo8 v) s) := rfl

/-! ## Pairs and the F byte -/

@[simp] theorem hiReg_bc : Pair.hiReg .bc = .b := rfl

@[simp] theorem hiReg_de : Pair.hiReg .de = .d := rfl

@[simp] theorem hiReg_hl : Pair.hiReg .hl = .h := rfl

@[simp] theorem loReg_bc : Pair.loReg .bc = .c := rfl

@[simp] theorem loReg_de : Pair.loReg .de = .e := rfl

@[simp] theorem loReg_hl : Pair.loReg .hl = .l := rfl

@[simp] theorem hiReg_ne_loReg (p : Pair) : Pair.hiReg p ≠ Pair.loReg p := by cases p <;> decide

@[simp] theorem State.pair_eq (s : State) (p : Pair) : s.pair p = wordOf (s.reg (Pair.hiReg p)) (s.reg (Pair.loReg p)) :=
  rfl

@[simp] theorem State.hl_eq (s : State) : s.hl = s.pair .hl := rfl

@[simp] theorem State.setPair_eq (s : State) (p : Pair) (v : Word) :
    s.setPair p v = (s.setReg (Pair.hiReg p) (hi8 v)).setReg (Pair.loReg p) (lo8 v) := rfl

@[simp] theorem State.rp_pair (s : State) (p : Pair) : s.rp (.pair p) = s.pair p := rfl

@[simp] theorem State.rp_sp (s : State) : s.rp .sp = s.sp := rfl

@[simp] theorem State.setRp_pair (s : State) (p : Pair) (v : Word) : s.setRp (.pair p) v = s.setPair p v := rfl

@[simp] theorem State.setRp_sp (s : State) (v : Word) : s.setRp .sp v = s.setSp v := rfl

@[simp] theorem State.rp2_pair (s : State) (p : Pair) : s.rp2 (.pair p) = s.pair p := rfl

@[simp] theorem State.rp2_af (s : State) : s.rp2 .af = wordOf (s.reg .a) s.fByte := rfl

@[simp] theorem State.setRp2_pair (s : State) (p : Pair) (v : Word) : s.setRp2 (.pair p) v = s.setPair p v := rfl

@[simp] theorem State.setRp2_af (s : State) (v : Word) : s.setRp2 .af v = (s.setReg .a (hi8 v)).setF (lo8 v) := rfl

@[simp] theorem State.setF_eq (s : State) (v : Byte) :
    s.setF v = (((s.setZ (v.getLsbD 7)).setN (v.getLsbD 6)).setH (v.getLsbD 5)).setC (v.getLsbD 4) := rfl

/-- AF as PUSH stores it (R34). -/
theorem rp2_af_value (s : State) : s.rp2 .af = s.pushValue .af := by
  rw [State.rp2_af]
  unfold State.fByte State.pushValue
  cases s.fZ <;> cases s.fN <;> cases s.fH <;> cases s.fC <;> rfl

/-- The bits of F: Z, N, H, C from bit 7 down, and 0 below (R34). -/
theorem fByte_bits (s : State) :
    s.fByte.getLsbD 7 = s.fZ ∧ s.fByte.getLsbD 6 = s.fN ∧ s.fByte.getLsbD 5 = s.fH ∧ s.fByte.getLsbD 4 = s.fC ∧
      s.fByte.toNat % 16 = 0 := by
  unfold State.fByte
  cases s.fZ <;> cases s.fN <;> cases s.fH <;> cases s.fC <;> decide

/-! ## Flags written together -/

@[simp] theorem State.setFlags_eq (s : State) (z n h c : Bool) :
    s.setFlags z n h c = (((s.setZ z).setN n).setH h).setC c := rfl

@[simp] theorem State.setZNH_eq (s : State) (z n h : Bool) : s.setZNH z n h = ((s.setZ z).setN n).setH h := rfl

/-! ## The coded operand -/

@[simp] theorem get8_reg (r : Reg8) (s : State) : get8 (.reg r) s = (s.reg r, s) := rfl

@[simp] theorem get8_atHL (s : State) : get8 .atHL s = (s.peek s.hl, s.record (.read s.hl)) := rfl

@[simp] theorem set8_reg (r : Reg8) (v : Byte) (s : State) : set8 (.reg r) v s = s.setReg r v := rfl

@[simp] theorem set8_atHL (v : Byte) (s : State) : set8 .atHL v s = writeByte s.hl v s := rfl

@[simp] theorem getSrc_opd (o : Operand8) (s : State) : getSrc (.opd o) s = get8 o s := rfl

@[simp] theorem getSrc_imm (n : Byte) (s : State) : getSrc (.imm n) s = (n, s) := rfl

/-- The high page starts at 0xFF00 (R87). -/
@[simp] theorem highPage_eq (n : Byte) : highPage n = wordOf 0xFF n := by
  revert n
  decide

/-! ## The stack -/

@[simp] theorem sub_one_ne_sub_two (a : Word) : a - 1#16 ≠ a - 2#16 := by bv_omega

@[simp] theorem sub_two_ne_sub_one (a : Word) : a - 2#16 ≠ a - 1#16 := by bv_omega

@[simp] theorem sub_two_add_one (a : Word) : a - 2#16 + 1#16 = a - 1#16 := by bv_omega

@[simp] theorem succ_ne_self (a : Word) : a + 1#16 ≠ a := by bv_omega

@[simp] theorem self_ne_succ (a : Word) : a ≠ a + 1#16 := by bv_omega

@[simp] theorem push16_eq (v : Word) (s : State) :
    push16 v s =
      writeByte (s.sp - 2) (lo8 v) ((writeByte (s.sp - 1) (hi8 v) (s.setSp (s.sp - 1))).setSp (s.sp - 2)) := by
  have h : s.sp - 1#16 - 1#16 = s.sp - 2#16 := by bv_omega
  simp [push16, h]

@[simp] theorem pop16_fst (s : State) : (pop16 s).1 = s.peekWord s.sp := by
  simp [pop16, State.peekWord]

@[simp] theorem pop16_snd (s : State) :
    (pop16 s).2 =
      (((s.record (.read s.sp)).setSp (s.sp + 1)).record (.read (s.sp + 1))).setSp (s.sp + 2) := by
  simp [pop16, BitVec.add_assoc]

@[simp] theorem State.peekWord_eq (s : State) (a : Word) : s.peekWord a = wordOf (s.answer [.read a] (a + 1)) (s.peek a) :=
  rfl

@[simp] theorem State.popped_eq (s : State) :
    s.popped = wordOf (s.answer (fetchReads 1 s.pc ++ [.read s.sp]) (s.sp + 1)) (s.data 1 s.sp) := rfl

@[simp] theorem State.data_eq (s : State) (n : Nat) (a : Word) : s.data n a = s.answer (fetchReads n s.pc) a := rfl

/-! ## The end of a meaning -/

@[simp] theorem done_eq (c : Nat) (s : State) : done c s = .next (s.setCost c) := rfl

end Sys2Proof.Machine
end

