-- ==== Sys2Proof/Laws/Alu.lean ====
section
/-!
SUPPORT. Everything an 8-bit ALU operation can do, for every operation and operand form, and the flag computations as
statements about numbers.
-/

namespace Sys2Proof.Machine

theorem aluAdd_res (a b : Byte) (cin : Bool) :
    (aluAdd a b cin).res.toNat = (a.toNat + b.toNat + cin.toNat) % 256 := by
  simp [aluAdd]

theorem aluAdd_z (a b : Byte) (cin : Bool) :
    (aluAdd a b cin).z = decide ((a.toNat + b.toNat + cin.toNat) % 256 = 0) := by
  rw [← aluAdd_res]
  simp [aluAdd, ← BitVec.toNat_inj]

theorem aluSub_res (a b : Byte) (cin : Bool) :
    ((aluSub a b cin).res.toNat : Int) = ((a.toNat : Int) - b.toNat - cin.toNat) % 256 := by
  simp only [aluSub, BitVec.toNat_ofInt]
  omega

theorem aluSub_z (a b : Byte) (cin : Bool) :
    (aluSub a b cin).z = decide (((a.toNat : Int) - b.toNat - cin.toNat) % 256 = 0) := by
  rw [← aluSub_res]
  simp [aluSub, ← BitVec.toNat_inj]

theorem aluCp_z (a b : Byte) : (aluCp a b).z = decide (a.toNat = b.toNat) := by
  simp only [aluCp, decide_eq_decide]
  constructor <;> intro h <;> bv_omega

/-- What an ALU operation leaves: its outputs, the fetch and the read it made, and everything else as it was. -/
theorem opAlu_effect (op : AluOp) (src : AluSrc) (s : State) :
    ∃ t, opAlu op src s = .next t ∧
      t.reg .a = (if op = .cp then s.reg .a else (aluOp op (s.reg .a) (s.source src) s.fC).res) ∧
      t.fZ = (aluOp op (s.reg .a) (s.source src) s.fC).z ∧ t.fN = (aluOp op (s.reg .a) (s.source src) s.fC).n ∧
      t.fH = (aluOp op (s.reg .a) (s.source src) s.fC).h ∧ t.fC = (aluOp op (s.reg .a) (s.source src) s.fC).c ∧
      t.pc = s.pc + BitVec.ofNat 16 src.bytes ∧ Report src.bytes src.cycles (src.reads s) s t ∧
      Frame { regs := if op = .cp then [] else [.a], flags := [.z, .n, .h, .c] } s t := by
  have hreg : (getSrc src (s.fetched (aluBytes src))).1 = s.source src := by
    rcases src with (_ | _) | _ <;> simp [State.source, State.operand, aluBytes]
  have hacc : ∀ (v : Byte) (u : State), setAcc op v u = if op = .cp then u else u.setReg .a v := by
    intro v u; cases op <;> rfl
  simp only [opAlu, done_eq, hreg, hacc]
  refine ⟨_, rfl, ?_⟩
  by_cases hop : op = .cp
  all_goals
    rcases src with (_ | _) | _
    all_goals
      simp only [hop, getSrc_opd, getSrc_imm, get8_reg, get8_atHL, aluBytes, aluCost, AluSrc.bytes, AluSrc.cycles,
        AluSrc.reads, Operand8.reads, if_true, if_false]
      refine ⟨by simp, by simp, by simp, by simp, by simp, by simp, ?_, ?_⟩
      · constructor <;> simp [fetchReads]
      · constructor
        case flags => intro f hf; cases f <;> simp_all
        case specified => intro n; cases n <;> simp [Writes.covers]
        case bytes => intro h; simp [h]
        case regs => intro r hr; simp at hr; simp [hr]
        all_goals simp

end Sys2Proof.Machine
end

