-- ==== Sys2Proof/Laws/Forms.lean ====
section
/-!
SUPPORT. The 502 meanings are the shared operations: `exec i` is `Form.run` of the operation `i` stands for, and the prefix
descriptor runs the sub-descriptor of its sub-opcode (40_dispatch.md R177). A statement about a family is proved about one
operation.
-/

namespace Sys2Proof.Machine

/-- The shared operation of a form. -/
def Form.run : Form → State → Result
  | .jp nn => opJp nn
  | .jpCc cc nn => opJpCc cc nn
  | .jr e => opJr e
  | .jrCc cc e => opJrCc cc e
  | .jpHl => opJpHl
  | .call nn => opCall nn
  | .callCc cc nn => opCallCc cc nn
  | .ret => opRet
  | .retCc cc => opRetCc cc
  | .reti => opReti
  | .rst y => opRst y
  | .alu op src => opAlu op src
  | .inc8 o => opInc8 o
  | .dec8 o => opDec8 o
  | .daa => opDaa
  | .cpl => opCpl
  | .scf => opScf
  | .ccf => opCcf
  | .accRot k => opAccRot k
  | .prefixCb sub => exec_prefix_CB sub
  | .cbRot k o => opCbRot k o
  | .bit b o => opBit b o
  | .res b o => opRes b o
  | .set b o => opSet b o
  | .ldRegReg dst src => opLdRegReg dst src
  | .ldRegHl dst => opLdRegHl dst
  | .ldHlReg src => opLdHlReg src
  | .ldRegN dst n => opLdRegN dst n
  | .ldHlN n => opLdHlN n
  | .ldAInd p => opLdAInd p
  | .ldIndA p => opLdIndA p
  | .ldANn nn => opLdANn nn
  | .ldNnA nn => opLdNnA nn
  | .ldhNA n => opLdhNA n
  | .ldhAN n => opLdhAN n
  | .ldCA => opLdCA
  | .ldAC => opLdAC
  | .ldHlStepA k => opLdHlStepA k
  | .ldAHlStep k => opLdAHlStep k
  | .ldRpNn rp nn => opLdRpNn rp nn
  | .ldSpHl => opLdSpHl
  | .ldNnSp nn => opLdNnSp nn
  | .push rp => opPush rp
  | .pop rp => opPop rp
  | .inc16 rp => opInc16 rp
  | .dec16 rp => opDec16 rp
  | .addHl rp => opAddHl rp
  | .addSp e => opAddSp e
  | .ldHlSp e => opLdHlSp e
  | .nop => opNop
  | .illegal op => opIllegal op
  | .halt => opHalt
  | .stop _ => opStop
  | .di => opDi
  | .ei => opEi

/-- Every meaning is the shared operation of its form. -/
theorem exec_eq_run (i : Instr) (s : State) : exec i s = Form.run i.form s := by
  cases i <;> rfl

/-- The meaning of an instruction whose form is known. -/
theorem exec_of_form {i : Instr} {f : Form} (h : i.form = f) (s : State) : exec i s = Form.run f s := by
  rw [exec_eq_run, h]

/-! ## The prefix descriptor -/

theorem tcbRow0_eq : tcbRow0 = cbRow0.map exec := by
  simp only [tcbRow0, cbRow0, Vector.map_mk, List.map_toArray, List.map_cons, List.map_nil]; rfl

theorem tcbRow1_eq : tcbRow1 = cbRow1.map exec := by
  simp only [tcbRow1, cbRow1, Vector.map_mk, List.map_toArray, List.map_cons, List.map_nil]; rfl

theorem tcbRow2_eq : tcbRow2 = cbRow2.map exec := by
  simp only [tcbRow2, cbRow2, Vector.map_mk, List.map_toArray, List.map_cons, List.map_nil]; rfl

theorem tcbRow3_eq : tcbRow3 = cbRow3.map exec := by
  simp only [tcbRow3, cbRow3, Vector.map_mk, List.map_toArray, List.map_cons, List.map_nil]; rfl

theorem tcbRow4_eq : tcbRow4 = cbRow4.map exec := by
  simp only [tcbRow4, cbRow4, Vector.map_mk, List.map_toArray, List.map_cons, List.map_nil]; rfl

theorem tcbRow5_eq : tcbRow5 = cbRow5.map exec := by
  simp only [tcbRow5, cbRow5, Vector.map_mk, List.map_toArray, List.map_cons, List.map_nil]; rfl

theorem tcbRow6_eq : tcbRow6 = cbRow6.map exec := by
  simp only [tcbRow6, cbRow6, Vector.map_mk, List.map_toArray, List.map_cons, List.map_nil]; rfl

theorem tcbRow7_eq : tcbRow7 = cbRow7.map exec := by
  simp only [tcbRow7, cbRow7, Vector.map_mk, List.map_toArray, List.map_cons, List.map_nil]; rfl

theorem tcbRow8_eq : tcbRow8 = cbRow8.map exec := by
  simp only [tcbRow8, cbRow8, Vector.map_mk, List.map_toArray, List.map_cons, List.map_nil]; rfl

theorem tcbRow9_eq : tcbRow9 = cbRow9.map exec := by
  simp only [tcbRow9, cbRow9, Vector.map_mk, List.map_toArray, List.map_cons, List.map_nil]; rfl

theorem tcbRowA_eq : tcbRowA = cbRowA.map exec := by
  simp only [tcbRowA, cbRowA, Vector.map_mk, List.map_toArray, List.map_cons, List.map_nil]; rfl

theorem tcbRowB_eq : tcbRowB = cbRowB.map exec := by
  simp only [tcbRowB, cbRowB, Vector.map_mk, List.map_toArray, List.map_cons, List.map_nil]; rfl

theorem tcbRowC_eq : tcbRowC = cbRowC.map exec := by
  simp only [tcbRowC, cbRowC, Vector.map_mk, List.map_toArray, List.map_cons, List.map_nil]; rfl

theorem tcbRowD_eq : tcbRowD = cbRowD.map exec := by
  simp only [tcbRowD, cbRowD, Vector.map_mk, List.map_toArray, List.map_cons, List.map_nil]; rfl

theorem tcbRowE_eq : tcbRowE = cbRowE.map exec := by
  simp only [tcbRowE, cbRowE, Vector.map_mk, List.map_toArray, List.map_cons, List.map_nil]; rfl

theorem tcbRowF_eq : tcbRowF = cbRowF.map exec := by
  simp only [tcbRowF, cbRowF, Vector.map_mk, List.map_toArray, List.map_cons, List.map_nil]; rfl

/-- TCB is the CB map with each instruction replaced by its meaning. -/
theorem tcb_eq_map : tcb = cbMap.map (fun row => row.map exec) := by
  simp only [tcb, cbMap, Vector.map_mk, List.map_toArray, List.map_cons, List.map_nil,
    tcbRow0_eq, tcbRow1_eq, tcbRow2_eq, tcbRow3_eq, tcbRow4_eq, tcbRow5_eq, tcbRow6_eq, tcbRow7_eq, tcbRow8_eq, tcbRow9_eq, tcbRowA_eq, tcbRowB_eq, tcbRowC_eq, tcbRowD_eq, tcbRowE_eq, tcbRowF_eq]

/-- The prefix descriptor runs the sub-descriptor of its sub-opcode. -/
theorem exec_prefix_CB_eq (sub : Byte) (s : State) : exec_prefix_CB sub s = exec (decodeCb sub) s := by
  simp [exec_prefix_CB, decodeCb, cell, tcb_eq_map]

end Sys2Proof.Machine
end

