-- ==== Sys2Proof/Laws/Run.lean ====
section
/-!
SUPPORT. What every shared operation does, said once for each: it answers a next state at its descriptor's cost, keeps the
canonical form of memory, the parameters and every "specified" bit, makes at most five calls on the Memory Interface, and
writes IME and EI_PENDING only where it is RETI, DI or EI. A statement about all instructions is proved from
`run_next` and not by unfolding 502 meanings.
-/

namespace Sys2Proof.Machine

/-- What an operation keeps from `s` to the state `t` it answers. -/
structure Kept (f : Form) (s t : State) : Prop where
  cost      : t.cost = formCost f s
  bounds    : 1 ≤ t.cost ∧ t.cost ≤ 6
  accesses  : t.accesses.length ≤ 5
  memory    : Memory.wf s.mem = true → Memory.wf t.mem = true
  history   : t.history = s.logged t.accesses
  image     : s.config.memory = .external → t.mem = s.mem
  config    : t.config = s.config
  specified : ∀ n, s.specified.get n = true → t.specified.get n = true
  ime       : t.ime = if f = .di then false else if f = .reti then true else s.ime
  eiPending : t.eiPending = if f = .di then false else if f = .ei then true else s.eiPending

theorem opJp_next (nn : Word) (s : State) : ∃ t, opJp nn s = .next t ∧ Kept (.jp nn) s t := by
  simp only [opJp, done_eq]
  exact ⟨_, rfl, by constructor <;> simp +contextual [formCost, fetchReads]⟩

theorem opJpCc_next (cc : Cond) (nn : Word) (s : State) : ∃ t, opJpCc cc nn s = .next t ∧ Kept (.jpCc cc nn) s t := by
  cases hc : s.cond cc
  all_goals
    cases cc
    all_goals
      simp only [State.cond, Bool.not_eq_false', Bool.not_eq_true'] at hc
      simp only [opJpCc, State.cond, State.fetched_fZ, State.fetched_fC, hc, done_eq]
      exact ⟨_, rfl, by constructor <;> simp +contextual [formCost, fetchReads, State.cond, hc]⟩

theorem opJr_next (e : Byte) (s : State) : ∃ t, opJr e s = .next t ∧ Kept (.jr e) s t := by
  simp only [opJr, done_eq]
  exact ⟨_, rfl, by constructor <;> simp +contextual [formCost, fetchReads]⟩

theorem opJrCc_next (cc : Cond) (e : Byte) (s : State) : ∃ t, opJrCc cc e s = .next t ∧ Kept (.jrCc cc e) s t := by
  cases hc : s.cond cc
  all_goals
    cases cc
    all_goals
      simp only [State.cond, Bool.not_eq_false', Bool.not_eq_true'] at hc
      simp only [opJrCc, State.cond, State.fetched_fZ, State.fetched_fC, hc, done_eq]
      exact ⟨_, rfl, by constructor <;> simp +contextual [formCost, fetchReads, State.cond, hc]⟩

theorem opJpHl_next (s : State) : ∃ t, opJpHl s = .next t ∧ Kept .jpHl s t := by
  simp only [opJpHl, done_eq]
  exact ⟨_, rfl, by constructor <;> simp +contextual [formCost, fetchReads]⟩

theorem opCall_next (nn : Word) (s : State) : ∃ t, opCall nn s = .next t ∧ Kept (.call nn) s t := by
  simp only [opCall, done_eq]
  exact ⟨_, rfl, by constructor <;> simp +contextual [formCost, fetchReads]⟩

theorem opCallCc_next (cc : Cond) (nn : Word) (s : State) : ∃ t, opCallCc cc nn s = .next t ∧ Kept (.callCc cc nn) s t := by
  cases hc : s.cond cc
  all_goals
    cases cc
    all_goals
      simp only [State.cond, Bool.not_eq_false', Bool.not_eq_true'] at hc
      simp only [opCallCc, State.cond, State.fetched_fZ, State.fetched_fC, hc, done_eq]
      exact ⟨_, rfl, by constructor <;> simp +contextual [formCost, fetchReads, State.cond, hc]⟩

theorem opRet_next (s : State) : ∃ t, opRet s = .next t ∧ Kept .ret s t := by
  simp only [opRet, done_eq]
  exact ⟨_, rfl, by constructor <;> simp +contextual [formCost, fetchReads]⟩

theorem opRetCc_next (cc : Cond) (s : State) : ∃ t, opRetCc cc s = .next t ∧ Kept (.retCc cc) s t := by
  cases hc : s.cond cc
  all_goals
    cases cc
    all_goals
      simp only [State.cond, Bool.not_eq_false', Bool.not_eq_true'] at hc
      simp only [opRetCc, State.cond, State.fetched_fZ, State.fetched_fC, hc, done_eq]
      exact ⟨_, rfl, by constructor <;> simp +contextual [formCost, fetchReads, State.cond, hc]⟩

theorem opReti_next (s : State) : ∃ t, opReti s = .next t ∧ Kept .reti s t := by
  simp only [opReti, returnFromInterrupt, done_eq]
  exact ⟨_, rfl, by constructor <;> simp +contextual [formCost, fetchReads]⟩

theorem opRst_next (y : Fin 8) (s : State) : ∃ t, opRst y s = .next t ∧ Kept (.rst y) s t := by
  simp only [opRst, done_eq]
  exact ⟨_, rfl, by constructor <;> simp +contextual [formCost, fetchReads]⟩

theorem opAlu_next (op : AluOp) (src : AluSrc) (s : State) : ∃ t, opAlu op src s = .next t ∧ Kept (.alu op src) s t := by
  simp only [opAlu, done_eq]
  refine ⟨_, rfl, ?_⟩
  rcases src with (_ | _) | _ <;> cases op <;> constructor <;> simp +contextual [formCost, fetchReads, aluCost, aluBytes, setAcc]

theorem opInc8_next (o : Operand8) (s : State) : ∃ t, opInc8 o s = .next t ∧ Kept (.inc8 o) s t := by
  simp only [opInc8, done_eq]
  refine ⟨_, rfl, ?_⟩
  cases o <;> constructor <;> simp +contextual [formCost, fetchReads, incCost]

theorem opDec8_next (o : Operand8) (s : State) : ∃ t, opDec8 o s = .next t ∧ Kept (.dec8 o) s t := by
  simp only [opDec8, done_eq]
  refine ⟨_, rfl, ?_⟩
  cases o <;> constructor <;> simp +contextual [formCost, fetchReads, incCost]

theorem opDaa_next (s : State) : ∃ t, opDaa s = .next t ∧ Kept .daa s t := by
  simp only [opDaa, done_eq]
  exact ⟨_, rfl, by constructor <;> simp +contextual [formCost, fetchReads]⟩

theorem opCpl_next (s : State) : ∃ t, opCpl s = .next t ∧ Kept .cpl s t := by
  simp only [opCpl, done_eq]
  exact ⟨_, rfl, by constructor <;> simp +contextual [formCost, fetchReads]⟩

theorem opScf_next (s : State) : ∃ t, opScf s = .next t ∧ Kept .scf s t := by
  simp only [opScf, done_eq]
  exact ⟨_, rfl, by constructor <;> simp +contextual [formCost, fetchReads]⟩

theorem opCcf_next (s : State) : ∃ t, opCcf s = .next t ∧ Kept .ccf s t := by
  simp only [opCcf, done_eq]
  exact ⟨_, rfl, by constructor <;> simp +contextual [formCost, fetchReads]⟩

theorem opAccRot_next (k : AccRot) (s : State) : ∃ t, opAccRot k s = .next t ∧ Kept (.accRot k) s t := by
  simp only [opAccRot, done_eq]
  exact ⟨_, rfl, by constructor <;> simp +contextual [formCost, fetchReads]⟩

theorem opCbRot_next (k : CbRot) (o : Operand8) (s : State) : ∃ t, opCbRot k o s = .next t ∧ Kept (.cbRot k o) s t := by
  simp only [opCbRot, done_eq]
  refine ⟨_, rfl, ?_⟩
  cases o <;> constructor <;> simp +contextual [formCost, fetchReads, cbCost]

theorem opBit_next (b : Fin 8) (o : Operand8) (s : State) : ∃ t, opBit b o s = .next t ∧ Kept (.bit b o) s t := by
  simp only [opBit, done_eq]
  refine ⟨_, rfl, ?_⟩
  cases o <;> constructor <;> simp +contextual [formCost, fetchReads, bitCost]

theorem opRes_next (b : Fin 8) (o : Operand8) (s : State) : ∃ t, opRes b o s = .next t ∧ Kept (.res b o) s t := by
  simp only [opRes, done_eq]
  refine ⟨_, rfl, ?_⟩
  cases o <;> constructor <;> simp +contextual [formCost, fetchReads, cbCost]

theorem opSet_next (b : Fin 8) (o : Operand8) (s : State) : ∃ t, opSet b o s = .next t ∧ Kept (.set b o) s t := by
  simp only [opSet, done_eq]
  refine ⟨_, rfl, ?_⟩
  cases o <;> constructor <;> simp +contextual [formCost, fetchReads, cbCost]

theorem opLdRegReg_next (dst src : Reg8) (s : State) : ∃ t, opLdRegReg dst src s = .next t ∧ Kept (.ldRegReg dst src) s t := by
  simp only [opLdRegReg, done_eq]
  exact ⟨_, rfl, by constructor <;> simp +contextual [formCost, fetchReads]⟩

theorem opLdRegHl_next (dst : Reg8) (s : State) : ∃ t, opLdRegHl dst s = .next t ∧ Kept (.ldRegHl dst) s t := by
  simp only [opLdRegHl, done_eq]
  exact ⟨_, rfl, by constructor <;> simp +contextual [formCost, fetchReads]⟩

theorem opLdHlReg_next (src : Reg8) (s : State) : ∃ t, opLdHlReg src s = .next t ∧ Kept (.ldHlReg src) s t := by
  simp only [opLdHlReg, done_eq]
  exact ⟨_, rfl, by constructor <;> simp +contextual [formCost, fetchReads]⟩

theorem opLdRegN_next (dst : Reg8) (n : Byte) (s : State) : ∃ t, opLdRegN dst n s = .next t ∧ Kept (.ldRegN dst n) s t := by
  simp only [opLdRegN, done_eq]
  exact ⟨_, rfl, by constructor <;> simp +contextual [formCost, fetchReads]⟩

theorem opLdHlN_next (n : Byte) (s : State) : ∃ t, opLdHlN n s = .next t ∧ Kept (.ldHlN n) s t := by
  simp only [opLdHlN, done_eq]
  exact ⟨_, rfl, by constructor <;> simp +contextual [formCost, fetchReads]⟩

theorem opLdAInd_next (p : Ind) (s : State) : ∃ t, opLdAInd p s = .next t ∧ Kept (.ldAInd p) s t := by
  simp only [opLdAInd, done_eq]
  exact ⟨_, rfl, by constructor <;> simp +contextual [formCost, fetchReads]⟩

theorem opLdIndA_next (p : Ind) (s : State) : ∃ t, opLdIndA p s = .next t ∧ Kept (.ldIndA p) s t := by
  simp only [opLdIndA, done_eq]
  exact ⟨_, rfl, by constructor <;> simp +contextual [formCost, fetchReads]⟩

theorem opLdANn_next (nn : Word) (s : State) : ∃ t, opLdANn nn s = .next t ∧ Kept (.ldANn nn) s t := by
  simp only [opLdANn, done_eq]
  exact ⟨_, rfl, by constructor <;> simp +contextual [formCost, fetchReads]⟩

theorem opLdNnA_next (nn : Word) (s : State) : ∃ t, opLdNnA nn s = .next t ∧ Kept (.ldNnA nn) s t := by
  simp only [opLdNnA, done_eq]
  exact ⟨_, rfl, by constructor <;> simp +contextual [formCost, fetchReads]⟩

theorem opLdhNA_next (n : Byte) (s : State) : ∃ t, opLdhNA n s = .next t ∧ Kept (.ldhNA n) s t := by
  simp only [opLdhNA, done_eq]
  exact ⟨_, rfl, by constructor <;> simp +contextual [formCost, fetchReads]⟩

theorem opLdhAN_next (n : Byte) (s : State) : ∃ t, opLdhAN n s = .next t ∧ Kept (.ldhAN n) s t := by
  simp only [opLdhAN, done_eq]
  exact ⟨_, rfl, by constructor <;> simp +contextual [formCost, fetchReads]⟩

theorem opLdCA_next (s : State) : ∃ t, opLdCA s = .next t ∧ Kept .ldCA s t := by
  simp only [opLdCA, done_eq]
  exact ⟨_, rfl, by constructor <;> simp +contextual [formCost, fetchReads]⟩

theorem opLdAC_next (s : State) : ∃ t, opLdAC s = .next t ∧ Kept .ldAC s t := by
  simp only [opLdAC, done_eq]
  exact ⟨_, rfl, by constructor <;> simp +contextual [formCost, fetchReads]⟩

theorem opLdHlStepA_next (k : HlStep) (s : State) : ∃ t, opLdHlStepA k s = .next t ∧ Kept (.ldHlStepA k) s t := by
  simp only [opLdHlStepA, done_eq]
  exact ⟨_, rfl, by constructor <;> simp +contextual [formCost, fetchReads]⟩

theorem opLdAHlStep_next (k : HlStep) (s : State) : ∃ t, opLdAHlStep k s = .next t ∧ Kept (.ldAHlStep k) s t := by
  simp only [opLdAHlStep, done_eq]
  exact ⟨_, rfl, by constructor <;> simp +contextual [formCost, fetchReads]⟩

theorem opLdRpNn_next (rp : Rp) (nn : Word) (s : State) : ∃ t, opLdRpNn rp nn s = .next t ∧ Kept (.ldRpNn rp nn) s t := by
  simp only [opLdRpNn, done_eq]
  refine ⟨_, rfl, ?_⟩
  cases rp <;> constructor <;> simp +contextual [formCost, fetchReads]

theorem opLdSpHl_next (s : State) : ∃ t, opLdSpHl s = .next t ∧ Kept .ldSpHl s t := by
  simp only [opLdSpHl, done_eq]
  exact ⟨_, rfl, by constructor <;> simp +contextual [formCost, fetchReads]⟩

theorem opLdNnSp_next (nn : Word) (s : State) : ∃ t, opLdNnSp nn s = .next t ∧ Kept (.ldNnSp nn) s t := by
  simp only [opLdNnSp, done_eq]
  exact ⟨_, rfl, by constructor <;> simp +contextual [formCost, fetchReads]⟩

theorem opPush_next (rp : Rp2) (s : State) : ∃ t, opPush rp s = .next t ∧ Kept (.push rp) s t := by
  simp only [opPush, done_eq]
  refine ⟨_, rfl, ?_⟩
  cases rp <;> constructor <;> simp +contextual [formCost, fetchReads]

theorem opPop_next (rp : Rp2) (s : State) : ∃ t, opPop rp s = .next t ∧ Kept (.pop rp) s t := by
  simp only [opPop, done_eq]
  refine ⟨_, rfl, ?_⟩
  cases rp <;> constructor <;> simp +contextual [formCost, fetchReads]

theorem opInc16_next (rp : Rp) (s : State) : ∃ t, opInc16 rp s = .next t ∧ Kept (.inc16 rp) s t := by
  simp only [opInc16, done_eq]
  refine ⟨_, rfl, ?_⟩
  cases rp <;> constructor <;> simp +contextual [formCost, fetchReads]

theorem opDec16_next (rp : Rp) (s : State) : ∃ t, opDec16 rp s = .next t ∧ Kept (.dec16 rp) s t := by
  simp only [opDec16, done_eq]
  refine ⟨_, rfl, ?_⟩
  cases rp <;> constructor <;> simp +contextual [formCost, fetchReads]

theorem opAddHl_next (rp : Rp) (s : State) : ∃ t, opAddHl rp s = .next t ∧ Kept (.addHl rp) s t := by
  simp only [opAddHl, done_eq]
  exact ⟨_, rfl, by constructor <;> simp +contextual [formCost, fetchReads]⟩

theorem opAddSp_next (e : Byte) (s : State) : ∃ t, opAddSp e s = .next t ∧ Kept (.addSp e) s t := by
  simp only [opAddSp, done_eq]
  exact ⟨_, rfl, by constructor <;> simp +contextual [formCost, fetchReads]⟩

theorem opLdHlSp_next (e : Byte) (s : State) : ∃ t, opLdHlSp e s = .next t ∧ Kept (.ldHlSp e) s t := by
  simp only [opLdHlSp, done_eq]
  exact ⟨_, rfl, by constructor <;> simp +contextual [formCost, fetchReads]⟩

theorem opNop_next (s : State) : ∃ t, opNop s = .next t ∧ Kept .nop s t := by
  simp only [opNop, done_eq]
  exact ⟨_, rfl, by constructor <;> simp +contextual [formCost, fetchReads]⟩

theorem opHalt_next (s : State) : ∃ t, opHalt s = .next t ∧ Kept .halt s t := by
  simp only [opHalt, done_eq]
  exact ⟨_, rfl, by constructor <;> simp +contextual [formCost, fetchReads]⟩

theorem opStop_next (n : Byte) (s : State) : ∃ t, opStop s = .next t ∧ Kept (.stop n) s t := by
  simp only [opStop, done_eq]
  exact ⟨_, rfl, by constructor <;> simp +contextual [formCost, fetchReads]⟩

theorem opDi_next (s : State) : ∃ t, opDi s = .next t ∧ Kept .di s t := by
  simp only [opDi, done_eq]
  exact ⟨_, rfl, by constructor <;> simp +contextual [formCost, fetchReads]⟩

theorem opEi_next (s : State) : ∃ t, opEi s = .next t ∧ Kept .ei s t := by
  simp only [opEi, done_eq]
  exact ⟨_, rfl, by constructor <;> simp +contextual [formCost, fetchReads]⟩

/-- What the operation of any form but ILLEGAL and the prefix does. -/
theorem run_next (f : Form) (s : State) (h : ∀ op, f ≠ .illegal op) (h' : ∀ sub, f ≠ .prefixCb sub) :
    ∃ t, Form.run f s = .next t ∧ Kept f s t := by
  cases f with
  | jp nn => exact opJp_next nn s
  | jpCc cc nn => exact opJpCc_next cc nn s
  | jr e => exact opJr_next e s
  | jrCc cc e => exact opJrCc_next cc e s
  | jpHl => exact opJpHl_next s
  | call nn => exact opCall_next nn s
  | callCc cc nn => exact opCallCc_next cc nn s
  | ret => exact opRet_next s
  | retCc cc => exact opRetCc_next cc s
  | reti => exact opReti_next s
  | rst y => exact opRst_next y s
  | alu op src => exact opAlu_next op src s
  | inc8 o => exact opInc8_next o s
  | dec8 o => exact opDec8_next o s
  | daa => exact opDaa_next s
  | cpl => exact opCpl_next s
  | scf => exact opScf_next s
  | ccf => exact opCcf_next s
  | accRot k => exact opAccRot_next k s
  | cbRot k o => exact opCbRot_next k o s
  | bit b o => exact opBit_next b o s
  | res b o => exact opRes_next b o s
  | set b o => exact opSet_next b o s
  | ldRegReg dst src => exact opLdRegReg_next dst src s
  | ldRegHl dst => exact opLdRegHl_next dst s
  | ldHlReg src => exact opLdHlReg_next src s
  | ldRegN dst n => exact opLdRegN_next dst n s
  | ldHlN n => exact opLdHlN_next n s
  | ldAInd p => exact opLdAInd_next p s
  | ldIndA p => exact opLdIndA_next p s
  | ldANn nn => exact opLdANn_next nn s
  | ldNnA nn => exact opLdNnA_next nn s
  | ldhNA n => exact opLdhNA_next n s
  | ldhAN n => exact opLdhAN_next n s
  | ldCA => exact opLdCA_next s
  | ldAC => exact opLdAC_next s
  | ldHlStepA k => exact opLdHlStepA_next k s
  | ldAHlStep k => exact opLdAHlStep_next k s
  | ldRpNn rp nn => exact opLdRpNn_next rp nn s
  | ldSpHl => exact opLdSpHl_next s
  | ldNnSp nn => exact opLdNnSp_next nn s
  | push rp => exact opPush_next rp s
  | pop rp => exact opPop_next rp s
  | inc16 rp => exact opInc16_next rp s
  | dec16 rp => exact opDec16_next rp s
  | addHl rp => exact opAddHl_next rp s
  | addSp e => exact opAddSp_next e s
  | ldHlSp e => exact opLdHlSp_next e s
  | nop => exact opNop_next s
  | halt => exact opHalt_next s
  | stop n => exact opStop_next n s
  | di => exact opDi_next s
  | ei => exact opEi_next s
  | illegal op => exact absurd rfl (h op)
  | prefixCb sub => exact absurd rfl (h' sub)

end Sys2Proof.Machine
end

