-- ==== Sys2Proof/Laws/Decode.lean ====
section
/-!
SUPPORT. What the decoder's maps hold, cell by cell: an instruction's length and whether it is ILLEGAL depend on the first
byte alone, the window at pc always decodes, and decoding never leaves the prefix descriptor unresolved.
-/

namespace Sys2Proof

open Sys2Proof.Machine

/-- What holds of the bytes 0 to 255 holds of every byte. -/
theorem byte_forall {P : Byte → Prop} (h : ∀ n, n < 256 → P (BitVec.ofNat 8 n)) (op : Byte) : P op := by
  have := h op.toNat op.isLt
  rwa [BitVec.ofNat_toNat, BitVec.setWidth_eq] at this

/-- A property of a cell is the cell of the properties. -/
theorem cell_map {α : Type} (f : Instr → α) (m : Vector (Vector Instr 16) 16) (op : Byte) :
    f (cell m op) =
      ((m.map (fun row => row.map f))[op.toNat / 16]'(by have := op.isLt; omega))[op.toNat % 16]'(by omega) := by
  simp [cell]

/-- What the first byte fixes: the length, and the byte if it is an illegal one. -/
def shape (i : Instr) : Nat × Option Byte :=
  (i.length, match i with | .illegal op => some op | _ => none)

/-- The shapes of the map of R130: the lengths of spec/opcode_table.json, and the eleven illegal bytes (R132). -/
def shapeMap : Vector (Vector (Nat × Option Byte) 16) 16 :=
  #v[#v[(1, none), (3, none), (1, none), (1, none), (1, none), (1, none), (2, none), (1, none), (3, none), (1,
      none), (1, none), (1, none), (1, none), (1, none), (2, none), (1, none)],
     #v[(2, none), (3, none), (1, none), (1, none), (1, none), (1, none), (2, none), (1, none), (2, none), (1,
      none), (1, none), (1, none), (1, none), (1, none), (2, none), (1, none)],
     #v[(2, none), (3, none), (1, none), (1, none), (1, none), (1, none), (2, none), (1, none), (2, none), (1,
      none), (1, none), (1, none), (1, none), (1, none), (2, none), (1, none)],
     #v[(2, none), (3, none), (1, none), (1, none), (1, none), (1, none), (2, none), (1, none), (2, none), (1,
      none), (1, none), (1, none), (1, none), (1, none), (2, none), (1, none)],
     #v[(1, none), (1, none), (1, none), (1, none), (1, none), (1, none), (1, none), (1, none), (1, none), (1,
      none), (1, none), (1, none), (1, none), (1, none), (1, none), (1, none)],
     #v[(1, none), (1, none), (1, none), (1, none), (1, none), (1, none), (1, none), (1, none), (1, none), (1,
      none), (1, none), (1, none), (1, none), (1, none), (1, none), (1, none)],
     #v[(1, none), (1, none), (1, none), (1, none), (1, none), (1, none), (1, none), (1, none), (1, none), (1,
      none), (1, none), (1, none), (1, none), (1, none), (1, none), (1, none)],
     #v[(1, none), (1, none), (1, none), (1, none), (1, none), (1, none), (1, none), (1, none), (1, none), (1,
      none), (1, none), (1, none), (1, none), (1, none), (1, none), (1, none)],
     #v[(1, none), (1, none), (1, none), (1, none), (1, none), (1, none), (1, none), (1, none), (1, none), (1,
      none), (1, none), (1, none), (1, none), (1, none), (1, none), (1, none)],
     #v[(1, none), (1, none), (1, none), (1, none), (1, none), (1, none), (1, none), (1, none), (1, none), (1,
      none), (1, none), (1, none), (1, none), (1, none), (1, none), (1, none)],
     #v[(1, none), (1, none), (1, none), (1, none), (1, none), (1, none), (1, none), (1, none), (1, none), (1,
      none), (1, none), (1, none), (1, none), (1, none), (1, none), (1, none)],
     #v[(1, none), (1, none), (1, none), (1, none), (1, none), (1, none), (1, none), (1, none), (1, none), (1,
      none), (1, none), (1, none), (1, none), (1, none), (1, none), (1, none)],
     #v[(1, none), (1, none), (3, none), (3, none), (3, none), (1, none), (2, none), (1, none), (1, none), (1,
      none), (3, none), (2, none), (3, none), (3, none), (2, none), (1, none)],
     #v[(1, none), (1, none), (3, none), (1, some 0xD3), (3, none), (1, none), (2, none), (1, none), (1, none),
      (1, none), (3, none), (1, some 0xDB), (3, none), (1, some 0xDD), (2, none), (1, none)],
     #v[(2, none), (1, none), (1, none), (1, some 0xE3), (1, some 0xE4), (1, none), (2, none), (1, none), (2,
      none), (1, none), (3, none), (1, some 0xEB), (1, some 0xEC), (1, some 0xED), (2, none), (1, none)],
     #v[(2, none), (1, none), (1, none), (1, none), (1, some 0xF4), (1, none), (2, none), (1, none), (2, none),
      (1, none), (3, none), (1, none), (1, some 0xFC), (1, some 0xFD), (2, none), (1, none)]]

theorem shape_primaryMap (n : Byte) (nn : Word) : (primaryMap n nn).map (fun row => row.map shape) = shapeMap := by
  simp only [primaryMap, primaryRow0, primaryRow1, primaryRow2, primaryRow3, primaryRow4, primaryRow5, primaryRow6, primaryRow7, primaryRow8, primaryRow9, primaryRowA, primaryRowB, primaryRowC, primaryRowD, primaryRowE, primaryRowF, Vector.map_mk,
    List.map_toArray, List.map_cons, List.map_nil]
  rfl

theorem shape_decodePrimary (op b1 b2 : Byte) :
    shape (decodePrimary op b1 b2) =
      (shapeMap[op.toNat / 16]'(by have := op.isLt; omega))[op.toNat % 16]'(by omega) := by
  unfold decodePrimary
  rw [cell_map shape]
  simp only [shape_primaryMap]

theorem shape_bounds (op b1 b2 : Byte) :
    1 ≤ (shape (decodePrimary op b1 b2)).1 ∧ (shape (decodePrimary op b1 b2)).1 ≤ 3 ∧
      (shape (decodePrimary op b1 b2)).2 = if illegalBytes.contains op then some op else none := by
  have h : ∀ n, n < 256 → ∀ x : Nat × Option Byte, x = shape (decodePrimary (BitVec.ofNat 8 n) 0 0) →
      1 ≤ x.1 ∧ x.1 ≤ 3 ∧
        x.2 = if illegalBytes.contains (BitVec.ofNat 8 n) then some (BitVec.ofNat 8 n) else none := by
    intro n hn x hx
    subst hx
    revert n
    decide +kernel
  refine byte_forall (P := fun op => 1 ≤ (shape (decodePrimary op b1 b2)).1 ∧ (shape (decodePrimary op b1 b2)).1 ≤ 3 ∧
      (shape (decodePrimary op b1 b2)).2 = if illegalBytes.contains op then some op else none) ?_ op
  intro n hn
  exact h n hn _ ((shape_decodePrimary _ b1 b2).trans (shape_decodePrimary _ 0 0).symm)

/-- The length depends on the first byte alone. -/
theorem length_decodePrimary (op b1 b2 : Byte) : (decodePrimary op b1 b2).length = (decodePrimary op 0 0).length :=
  congrArg Prod.fst ((shape_decodePrimary op b1 b2).trans (shape_decodePrimary op 0 0).symm)

theorem length_decodePrimary_bounds (op b1 b2 : Byte) :
    1 ≤ (decodePrimary op b1 b2).length ∧ (decodePrimary op b1 b2).length ≤ 3 :=
  ⟨(shape_bounds op b1 b2).1, (shape_bounds op b1 b2).2.1⟩

/-- A cell holds ILLEGAL only for an illegal byte, and that byte. -/
theorem decodePrimary_illegal {op b1 b2 x : Byte} (h : decodePrimary op b1 b2 = .illegal x) :
    illegalBytes.contains op = true ∧ x = op := by
  have hs := (shape_bounds op b1 b2).2.2
  rw [h] at hs
  by_cases hc : illegalBytes.contains op = true
  · rw [if_pos hc] at hs
    exact ⟨hc, Option.some.inj hs⟩
  · rw [if_neg hc] at hs
    cases hs

/-! ## The CB map -/

/-- What a CB cell is: its two bytes, its length, its cost class, and that it is neither ILLEGAL nor the prefix. -/
def cbShape (i : Instr) : List Byte × Nat × Bool :=
  (encode i, i.length, match i.form with | .cbRot _ _ | .bit _ _ | .res _ _ | .set _ _ => true | _ => false)

theorem cbShape_decodeCb : ∀ sub : Byte, cbShape (decodeCb sub) = ([0xCB, sub], 2, true) :=
  byte_forall (by decide +kernel)

theorem encode_decodeCb (sub : Byte) : encode (decodeCb sub) = [0xCB, sub] := congrArg Prod.fst (cbShape_decodeCb sub)

theorem form_decodeCb_ne (sub : Byte) :
    (∀ op, (decodeCb sub).form ≠ .illegal op) ∧ ∀ x, (decodeCb sub).form ≠ .prefixCb x := by
  have h := congrArg (fun p => p.2.2) (cbShape_decodeCb sub)
  constructor <;> intro _ hf <;> simp [cbShape, hf] at h

/-- The cost of a CB cell, as the prefix descriptor states it (R177). -/
theorem formCost_decodeCb (sub : Byte) (s : State) : formCost (decodeCb sub).form s = cbSubCost sub := by
  have h : ∀ b : Byte, (match (decodeCb b).form with
      | .cbRot _ o | .res _ o | .set _ o => some (o.pick 2 4)
      | .bit _ o => some (o.pick 2 3)
      | _ => none) = some (cbSubCost b) := byte_forall (by decide +kernel)
  have h := h sub
  revert h
  cases hf : (decodeCb sub).form
  case cbRot k o => intro h; cases o <;> simpa [formCost, Operand8.pick] using h
  case res k o => intro h; cases o <;> simpa [formCost, Operand8.pick] using h
  case set k o => intro h; cases o <;> simpa [formCost, Operand8.pick] using h
  case bit k o => intro h; cases o <;> simpa [formCost, Operand8.pick] using h
  all_goals intro h; simp at h

/-! ## The bytes of a decoded cell -/

theorem wellFormed_decodeCb : ∀ sub : Byte, (decodeCb sub).wellFormed = true := byte_forall (by decide +kernel)

/-- A cell of the map of R130 encodes to its byte and its operand bytes. -/
theorem encode_decodePrimary (b1 b2 : Byte) (n : Nat) (hn : n < 256) :
    (decodePrimary (BitVec.ofNat 8 n) b1 b2).resolve.wellFormed = true ∧
      encode (decodePrimary (BitVec.ofNat 8 n) b1 b2).resolve =
        ([BitVec.ofNat 8 n, b1, b2] : List Byte).take (decodePrimary (BitVec.ofNat 8 n) b1 b2).length := by
  have e1 : lo8 (wordOf b2 b1) = b1 := by simp
  have e2 : hi8 (wordOf b2 b1) = b2 := by simp
  by_cases hc : n = 203
  · subst hc
    exact ⟨wellFormed_decodeCb b1, encode_decodeCb b1⟩
  · interval_cases n
    all_goals first
      | exact ⟨rfl, rfl⟩
      | exact absurd rfl hc
      | (refine ⟨rfl, ?_⟩
         show [_, lo8 (wordOf b2 b1), hi8 (wordOf b2 b1)] = [_, b1, b2]
         rw [e1, e2]
         rfl)

/-! ## Forms and constructors -/

theorem form_illegal {i : Instr} {op : Byte} (h : i.form = .illegal op) : i = .illegal op := by
  cases i
  case illegal x => cases h; rfl
  all_goals cases h

theorem form_prefixCb {i : Instr} {sub : Byte} (h : i.form = .prefixCb sub) : i = .prefix_CB sub := by
  cases i
  case prefix_CB x => cases h; rfl
  all_goals cases h

end Sys2Proof
end

