-- ==== Sys2Proof/Laws/Port.lean ====
section
/-!
SUPPORT. What the host's actions between two steps leave (60_exceptions.md R500, R503, R496): interrupt entry and wake as
record updates of the state before, and when each call answers a next state.
-/

namespace Sys2Proof.Machine

/-- The bounds of the invariant hold after interrupt entry. -/
theorem takeInterrupt_kept (k : Nat) (s : State) :
    (Memory.wf s.mem = true → Memory.wf (takeInterrupt k s).mem = true) ∧ (takeInterrupt k s).cost = 5 ∧
      (takeInterrupt k s).accesses.length = 3 ∧ (takeInterrupt k s).config = s.config ∧
      (takeInterrupt k s).history = s.logged (takeInterrupt k s).accesses := by
  simp +contextual [takeInterrupt]

/-- The bounds of the invariant hold after a wake. -/
theorem wakeState_kept (s : State) :
    (wakeState s).mem = s.mem ∧ (wakeState s).cost = 0 ∧ (wakeState s).accesses.length = 1 ∧
      (wakeState s).config = s.config ∧ (wakeState s).history = s.logged (wakeState s).accesses := by
  simp [wakeState]

/-- The one next state of an interrupt that is accepted, or the state itself. -/
theorem interrupt_next {k : Nat} {s t : State} {r : PortReply} (h : interrupt k s = .next (r, t)) :
    (r = .accepted 5 ∧ s.ime = true ∧ t = takeInterrupt k s) ∨ (r = .notAccepted ∧ s.ime = false ∧ t = s) := by
  unfold interrupt at h
  cases hp : s.config.interruptPort <;> simp only [hp] at h
  · cases h
  · by_cases hk : 4 < k
    · rw [if_pos hk] at h; cases h
    · rw [if_neg hk] at h
      cases hi : s.ime
      · simp only [hi, Bool.false_eq_true, if_false, Host.Outcome.next.injEq, Prod.mk.injEq] at h
        exact .inr ⟨h.1.symm, rfl, h.2.symm⟩
      · simp only [hi, if_true] at h
        cases hf : firstUnspecified [.sp] s with
        | some n => rw [hf] at h; cases h
        | none =>
          simp only [hf, Host.Outcome.next.injEq, Prod.mk.injEq] at h
          exact .inl ⟨h.1.symm, rfl, h.2.symm⟩

theorem wake_next {s t : State} {r : PortReply} (h : wake s = .next (r, t)) : r = .woken ∧ t = wakeState s := by
  unfold wake at h
  cases hp : s.config.interruptPort <;> simp only [hp] at h
  · cases h
  · simp only [Host.Outcome.next.injEq, Prod.mk.injEq] at h
    exact ⟨h.1.symm, h.2.symm⟩

/-- A port call that leaves a state, with its reply. -/
theorem portState_next {x : PortResult} {t : State} (h : portState x = .next t) : ∃ r, x = .next (r, t) := by
  cases x with
  | next p => obtain ⟨r, u⟩ := p; cases h; exact ⟨r, rfl⟩
  | fault r => cases h
  | refused r => cases h

end Sys2Proof.Machine
end

