-- ==== Sys2Proof/Laws/Step.lean ====
section
/-!
SUPPORT. Everything a step can do. The window at pc always decodes, to an instruction that is not the unresolved prefix
and is ILLEGAL only for an illegal byte; so a step is one of four cases, and its next state is `exec` of the decoded
instruction and then the EI delay (40_dispatch.md R173).
-/

namespace Sys2Proof.Machine

/-! ## The window decodes -/

/-- The resolved instruction has the length of the cell, is never the prefix, and is ILLEGAL only if the cell is. -/
theorem resolve_facts (i : Instr) :
    i.resolve.length = i.length ∧ (∀ sub, i.resolve ≠ .prefix_CB sub) ∧
      ∀ op, i.resolve = .illegal op → i = .illegal op := by
  by_cases hp : ∃ x, i = .prefix_CB x
  · obtain ⟨x, rfl⟩ := hp
    refine ⟨congrArg (fun p => p.2.1) (cbShape_decodeCb x), fun sub h => ?_, fun op h => ?_⟩
    · exact (form_decodeCb_ne x).2 sub (congrArg Instr.form h)
    · exact absurd (congrArg Instr.form h) ((form_decodeCb_ne x).1 op)
  · have h : i.resolve = i := by
      unfold Instr.resolve
      split
      · exact absurd ⟨_, rfl⟩ hp
      · rfl
    rw [h]
    exact ⟨rfl, fun sub h => hp ⟨sub, h⟩, fun _ h => h⟩

/-- The instruction the window at pc holds. -/
def State.windowInstr (s : State) : Instr :=
  (decodePrimary (s.peek s.pc) (s.answer [.read s.pc] (s.pc + 1))
    (s.answer [.read s.pc, .read (s.pc + 1)] (s.pc + 2))).resolve

theorem decode_window (s : State) : decode s.window = .ok (s.windowInstr, s.window.drop s.windowInstr.length) := by
  have hb := length_decodePrimary_bounds (s.peek s.pc) (s.answer [.read s.pc] (s.pc + 1))
    (s.answer [.read s.pc, .read (s.pc + 1)] (s.pc + 2))
  have hr := (resolve_facts (decodePrimary (s.peek s.pc) (s.answer [.read s.pc] (s.pc + 1))
    (s.answer [.read s.pc, .read (s.pc + 1)] (s.pc + 2)))).1
  simp only [decode, State.window, State.windowInstr, hr]
  exact if_pos hb.2

theorem decode_window_eq {s : State} {i : Instr} {rest : List Byte} (h : decode s.window = .ok (i, rest)) :
    i = s.windowInstr := by
  rw [decode_window] at h
  exact (congrArg Prod.fst (Except.ok.inj h)).symm

theorem windowInstr_ne_prefix (s : State) (sub : Byte) : s.windowInstr ≠ .prefix_CB sub :=
  (resolve_facts _).2.1 sub

theorem windowInstr_illegal {s : State} {op : Byte} (h : s.windowInstr = .illegal op) :
    illegalBytes.contains (s.peek s.pc) = true ∧ op = s.peek s.pc :=
  decodePrimary_illegal ((resolve_facts _).2.2 op h)

/-- A byte with a descriptor, in either opcode set, is not an illegal byte. -/
theorem hasDescriptor_legal {set : OpcodeSet} {op : Byte} (h : hasDescriptor set op = true) :
    illegalBytes.contains op = false := by
  cases set
  · simpa [hasDescriptor] using h
  · have := byte_forall (P := fun op => hasDescriptor .sourceOnly op = true → illegalBytes.contains op = false)
      (by decide +kernel) op
    exact this h

/-! ## The cases of a step -/

/-- At a byte with a descriptor, `exec` of the window's instruction completes, and this is all it can change. -/
theorem exec_window {s : State} (h : hasDescriptor s.config.opcodeSet (s.peek s.pc) = true) :
    ∃ t, exec s.windowInstr s = .next t ∧ Kept s.windowInstr.form s t := by
  rw [exec_eq_run]
  refine run_next _ s (fun op hf => ?_) fun sub hf => windowInstr_ne_prefix s sub (form_prefixCb hf)
  have := (windowInstr_illegal (form_illegal hf)).1
  rw [hasDescriptor_legal h] at this
  cases this

theorem step_no_descriptor {s : State} (h : hasDescriptor s.config.opcodeSet (s.peek s.pc) = false) :
    step s = .fault (.unimplemented (s.peek s.pc) s.pc s.opcodeRead) := by
  simp [-State.peek_eq, step, runStep, h]

theorem step_unspecified {s : State} {n : Named} (h : hasDescriptor s.config.opcodeSet (s.peek s.pc) = true)
    (hn : firstUnspecified (formReads s.windowInstr.form s) s = some n) : step s = .fault (.undefinedRead n) := by
  simp [-State.peek_eq, step, runStep, h, decode_window, hn]

theorem step_runs {s t : State} (h : hasDescriptor s.config.opcodeSet (s.peek s.pc) = true)
    (hn : firstUnspecified (formReads s.windowInstr.form s) s = none) (ht : exec s.windowInstr s = .next t) :
    step s = .next (eiDelay s.eiPending t) := by
  simp [-State.peek_eq, step, runStep, h, decode_window, hn, ht, finishStep]

/-- A next state is `exec` of the window's instruction, then the EI delay. -/
theorem step_next {s t : State} (h : step s = .next t) :
    ∃ u, exec s.windowInstr s = .next u ∧ Kept s.windowInstr.form s u ∧ t = eiDelay s.eiPending u := by
  by_cases hd : hasDescriptor s.config.opcodeSet (s.peek s.pc) = true
  · obtain ⟨u, hu, k⟩ := exec_window hd
    cases hn : firstUnspecified (formReads s.windowInstr.form s) s with
    | none =>
      rw [step_runs hd hn hu] at h
      exact ⟨u, hu, k, (Host.Outcome.next.inj h).symm⟩
    | some n =>
      rw [step_unspecified hd hn] at h
      cases h
  · rw [step_no_descriptor (by simpa only [Bool.not_eq_true] using hd)] at h
    cases h

/-- A fault is Unimplemented, at a byte without a descriptor, or UndefinedRead, at one with. -/
theorem step_fault {s : State} {f : Fault} (h : step s = .fault f) :
    (hasDescriptor s.config.opcodeSet (s.peek s.pc) = false ∧ f = .unimplemented (s.peek s.pc) s.pc s.opcodeRead) ∨
      (hasDescriptor s.config.opcodeSet (s.peek s.pc) = true ∧ ∃ n, f = .undefinedRead n) := by
  cases hd : hasDescriptor s.config.opcodeSet (s.peek s.pc)
  · rw [step_no_descriptor hd] at h
    exact .inl ⟨rfl, (Host.Outcome.fault.inj h).symm⟩
  · obtain ⟨u, hu, _⟩ := exec_window hd
    cases hn : firstUnspecified (formReads s.windowInstr.form s) s with
    | none => rw [step_runs hd hn hu] at h; cases h
    | some n =>
      rw [step_unspecified hd hn] at h
      exact .inr ⟨rfl, n, (Host.Outcome.fault.inj h).symm⟩

/-- What the check of `UNDEF_READ = FAULT` finds: the first unspecified name, under that setting alone. -/
theorem firstUnspecified_some (names : List Named) (s : State) (n : Named) :
    firstUnspecified names s = some n ↔ s.config.undefRead = .fault ∧ ∃ before after, names = before ++ n :: after ∧
      (∀ m ∈ before, s.specified.get m = true) ∧ s.specified.get n = false := by
  unfold firstUnspecified
  cases s.config.undefRead with
  | draw => simp
  | fault =>
    simp only [true_and, List.find?_eq_some_iff_append]
    simp
    constructor
    · rintro ⟨h, b, ⟨a, rfl⟩, hb⟩; exact ⟨b, ⟨a, rfl⟩, hb, h⟩
    · rintro ⟨b, ⟨a, rfl⟩, hb, h⟩; exact ⟨h, b, ⟨a, rfl⟩, hb⟩

theorem firstUnspecified_none {names : List Named} {s : State}
    (h : s.config.undefRead = .draw ∨ ∀ n ∈ names, s.specified.get n = true) : firstUnspecified names s = none := by
  unfold firstUnspecified
  rcases h with h | h
  · simp [h]
  · cases s.config.undefRead with
    | draw => rfl
    | fault => simpa using h

/-! ## The EI delay -/

@[simp] theorem eiDelay_cost (p : Bool) (t : State) : (eiDelay p t).cost = t.cost := by unfold eiDelay; split <;> rfl
@[simp] theorem eiDelay_accesses (p : Bool) (t : State) : (eiDelay p t).accesses = t.accesses := by
  unfold eiDelay; split <;> rfl
@[simp] theorem eiDelay_mem (p : Bool) (t : State) : (eiDelay p t).mem = t.mem := by unfold eiDelay; split <;> rfl
@[simp] theorem eiDelay_history (p : Bool) (t : State) : (eiDelay p t).history = t.history := by
  unfold eiDelay; split <;> rfl
@[simp] theorem eiDelay_answer (p : Bool) (t : State) (l : List Access) (a : Word) :
    (eiDelay p t).answer l a = t.answer l a := by
  unfold eiDelay; split <;> rfl
@[simp] theorem eiDelay_config (p : Bool) (t : State) : (eiDelay p t).config = t.config := by
  unfold eiDelay; split <;> rfl
@[simp] theorem eiDelay_specified (p : Bool) (t : State) : (eiDelay p t).specified = t.specified := by
  unfold eiDelay; split <;> rfl
@[simp] theorem eiDelay_pc (p : Bool) (t : State) : (eiDelay p t).pc = t.pc := by unfold eiDelay; split <;> rfl
@[simp] theorem eiDelay_ime (p : Bool) (t : State) : (eiDelay p t).ime = (t.ime || (p && t.eiPending)) := by
  unfold eiDelay; split <;> simp_all
@[simp] theorem eiDelay_eiPending (p : Bool) (t : State) : (eiDelay p t).eiPending = (!p && t.eiPending) := by
  unfold eiDelay; cases p <;> cases h : t.eiPending <;> simp [h]

end Sys2Proof.Machine
end

