-- ==== Sys2Proof/Tests/Slice0.lean ====
section
/-!
SUPPORT. Tests. The expected results of the vectors are those of spec/95_test_vectors.md (S1 to S9, V1 to V118), not the
model's; the words are written out from 30_encoding.md. Below them, a witness for the hypotheses of every statement.
-/

namespace Sys2Proof.Tests

open Sys2Proof.Machine

/-! ## Helpers -/

/-- The state the vectors start from: everything specified and 0, sp = 0xFFFE, pc = 0xC000, `UNDEF_READ = FAULT`. -/
def blank : State :=
  { State.reset with
    sp := 0xFFFE, pc := 0xC000, specified := Specified.all
    config := { opcodeSet := .full, undefRead := .fault, interruptPort := .absent, memory := .array } }

/-- `blank` with `INTERRUPT_PORT = PRESENT`. -/
def ported : State := { blank with config := { opcodeSet := .full, undefRead := .fault, interruptPort := .present, memory := .array } }

/-- `blank` with an external `MEM`. -/
def external : State :=
  { blank with config := { opcodeSet := .full, undefRead := .fault, interruptPort := .absent, memory := .external } }

/-- A state with bytes in memory from an address up. -/
def mem (a : Word) (bs : List Byte) (s : State) : State := placeBytes a bs s

/-- One step at the instruction `bs`, placed at pc. -/
def run (bs : List Byte) (s : State) : Result := step (mem s.pc bs s)

/-- The instruction completes in a state with a property. -/
def gives (r : Result) (p : State → Bool) : Bool :=
  match r with
  | .next t => p t
  | _ => false

/-- A property of what an interrupt port call answers. -/
def replies (r : PortResult) (p : PortReply → State → Bool) : Bool :=
  match r with
  | .next (x, t) => p x t
  | _ => false

/-- The flags as the number ZNHC. -/
def znhc (t : State) : Nat := 8 * t.fZ.toNat + 4 * t.fN.toNat + 2 * t.fH.toNat + t.fC.toNat

/-- The flags F of a state set from the number ZNHC. -/
def flags (f : Nat) (s : State) : State :=
  { s with fZ := decide (f / 8 % 2 = 1), fN := decide (f / 4 % 2 = 1), fH := decide (f / 2 % 2 = 1), fC := decide (f % 2 = 1) }

/-- `s` with HL = 0xD000 and the byte `v` there. -/
def atD000 (v : Byte) (s : State) : State := mem 0xD000 [v] { s with h := 0xD0, l := 0x00 }

/-! ## WellFormed -/

theorem test_ill_formed_illegal_00 : Instr.wellFormed (.illegal 0x00) = false := by decide
theorem test_ill_formed_illegal_CB : Instr.wellFormed (.illegal 0xCB) = false := by decide
theorem test_well_formed_illegal_D3 : Instr.wellFormed (.illegal 0xD3) = true := by decide

/-! ## Decoding: words written out from 30_encoding.md, one or more of every family -/

theorem test_decode_jp_NZ : decode [0b11000010, 0x00, 0x80] = .ok (.jp_NZ_nn 0x8000, []) := by rfl
theorem test_decode_jr_C : decode [0b00111000, 0x80] = .ok (.jr_C_e 0x80, []) := by rfl
theorem test_decode_call : decode [0b11001101, 0x00, 0x30] = .ok (.call_nn 0x3000, []) := by rfl
theorem test_decode_ret_Z : decode [0b11001000] = .ok (.ret_Z, []) := by rfl
theorem test_decode_rst_30 : decode [0b11110111] = .ok (.rst_30, []) := by rfl
theorem test_decode_jp_HL : decode [0b11101001] = .ok (.jp_HL, []) := by rfl
theorem test_decode_cp_D : decode [0b10111010] = .ok (.cp_D, []) := by rfl
theorem test_decode_cp_n : decode [0b11111110, 0x7F] = .ok (.cp_n 0x7F, []) := by rfl
theorem test_decode_xor_atHL : decode [0b10101110] = .ok (.xor_atHL, []) := by rfl
theorem test_decode_adc_A_E : decode [0b10001011] = .ok (.adc_A_E, []) := by rfl
theorem test_decode_sbc_A_n : decode [0b11011110, 0x4F] = .ok (.sbc_A_n 0x4F, []) := by rfl
theorem test_decode_inc_atHL : decode [0b00110100] = .ok (.inc_atHL, []) := by rfl
theorem test_decode_dec_H : decode [0b00100101] = .ok (.dec_H, []) := by rfl
theorem test_decode_scf : decode [0b00110111] = .ok (.scf, []) := by rfl
theorem test_decode_rrca : decode [0b00001111] = .ok (.rrca, []) := by rfl
theorem test_decode_srl_atHL : decode [0b11001011, 0b00111110] = .ok (.srl_atHL, []) := by rfl
theorem test_decode_bit_3_atHL : decode [0b11001011, 0b01011110] = .ok (.bit_3_atHL, []) := by rfl
theorem test_decode_res_0_A : decode [0b11001011, 0b10000111] = .ok (.res_0_A, []) := by rfl
theorem test_decode_set_7_B : decode [0b11001011, 0b11111000] = .ok (.set_7_B, []) := by rfl
theorem test_decode_ld_B_C : decode [0b01000001] = .ok (.ld_B_C, []) := by rfl
theorem test_decode_ld_atHL_n : decode [0b00110110, 0xAB] = .ok (.ld_atHL_n 0xAB, []) := by rfl
theorem test_decode_ld_A_atHLdec : decode [0b00111010] = .ok (.ld_A_atHLdec, []) := by rfl
theorem test_decode_ld_BC_nn : decode [0b00000001, 0x34, 0x12] = .ok (.ld_BC_nn 0x1234, []) := by rfl
theorem test_decode_pop_AF : decode [0b11110001] = .ok (.pop_AF, []) := by rfl
theorem test_decode_ld_A_atC : decode [0b11110010] = .ok (.ld_A_atC, []) := by rfl
theorem test_decode_inc_SP : decode [0b00110011] = .ok (.inc_SP, []) := by rfl
theorem test_decode_add_HL_DE : decode [0b00011001] = .ok (.add_HL_DE, []) := by rfl
theorem test_decode_add_SP_e : decode [0b11101000, 0xFF] = .ok (.add_SP_e 0xFF, []) := by rfl
theorem test_decode_ei : decode [0b11111011] = .ok (.ei, []) := by rfl
theorem test_decode_di : decode [0b11110011] = .ok (.di, []) := by rfl
theorem test_decode_truncated : decode [0xC3, 0x34] = .error (.truncated 0xC3) := by rfl
theorem test_decode_nothing : decode [] = .error .noBytes := by rfl
theorem test_table_word_jp : decodeTableWord 8 0xC3 = some (.jp_nn 0x0000) := by rfl
theorem test_table_word_cb : decodeTableWord 16 0xCB37 = some .swap_A := by rfl
theorem test_fetch_word : (step (State.reset.withFetchWord 16 0xCB37)) = exec .swap_A (State.reset.withFetchWord 16 0xCB37) := by
  rfl

/-! ## Vectors of 95_test_vectors.md -/

theorem test_V1 :
    gives (run [0xFE, 0x01] { blank with a := 0x10 }) (fun t => decide (znhc t = 0b0110) && decide (t.a = 0x10) && decide (t.cost = 2)) := by
  decide
theorem test_V2 :
    gives (run [0xB8] { blank with a := 0x3C, b := 0x2F }) (fun t => decide (znhc t = 0b0110) && decide (t.a = 0x3C) && decide (t.cost = 1)) := by
  decide
theorem test_V5 :
    gives (run [0xFE, 0x0A] { blank with a := 0x05 }) (fun t => decide (znhc t = 0b0110)) := by
  decide
theorem test_V9 :
    gives (run [0xBF] (flags 0b0011 { blank with a := 0x9C })) (fun t => decide (znhc t = 0b1100) && decide (t.a = 0x9C) && decide (t.cost = 1)) := by
  decide
theorem test_V10 :
    gives (run [0xBE] (atD000 0x21 { blank with a := 0x20 })) (fun t => decide (znhc t = 0b0110) && decide (t.a = 0x20) && decide (t.peek 0xD000 = 0x21) && decide (t.cost = 2)) := by
  decide
theorem test_V11 :
    gives (run [0xEE, 0xFF] (flags 0b1111 { blank with a := 0x5A })) (fun t => decide (znhc t = 0b0000) && decide (t.a = 0xA5) && decide (t.cost = 2)) := by
  decide
theorem test_V12 :
    gives (run [0xAF] (flags 0b0111 { blank with a := 0x77 })) (fun t => decide (znhc t = 0b1000) && decide (t.a = 0x00) && decide (t.cost = 1)) := by
  decide
theorem test_V13 :
    gives (run [0xA8] { blank with a := 0x0F, b := 0xF0 }) (fun t => decide (znhc t = 0b0000) && decide (t.a = 0xFF)) := by
  decide
theorem test_V14 :
    gives (run [0xAE] (atD000 0x3C (flags 0b1111 { blank with a := 0x3C }))) (fun t => decide (znhc t = 0b1000) && decide (t.a = 0x00) && decide (t.cost = 2)) := by
  decide
theorem test_V16 :
    gives (run [0xC6, 0xC6] { blank with a := 0x3A }) (fun t => decide (znhc t = 0b1011) && decide (t.a = 0x00) && decide (t.cost = 2)) := by
  decide
theorem test_V17 :
    gives (run [0xC6, 0x01] { blank with a := 0x0F }) (fun t => decide (znhc t = 0b0010) && decide (t.a = 0x10) && decide (t.cost = 2)) := by
  decide
theorem test_V19 :
    gives (run [0xCE, 0x0F] (flags 0b0001 { blank with a := 0xE1 })) (fun t => decide (znhc t = 0b0010) && decide (t.a = 0xF1) && decide (t.cost = 2)) := by
  decide
theorem test_V20 :
    gives (run [0xCE, 0x1E] (flags 0b0001 { blank with a := 0xE1 })) (fun t => decide (znhc t = 0b1011) && decide (t.a = 0x00) && decide (t.cost = 2)) := by
  decide
theorem test_V22 :
    gives (run [0xD6, 0x40] { blank with a := 0x3E }) (fun t => decide (znhc t = 0b0101) && decide (t.a = 0xFE) && decide (t.cost = 2)) := by
  decide
theorem test_V25 :
    gives (run [0xD6, 0x0A] { blank with a := 0x05 }) (fun t => decide (znhc t = 0b0111) && decide (t.a = 0xFB) && decide (t.cost = 2)) := by
  decide
theorem test_V26 :
    gives (run [0xDE, 0x4F] (flags 0b0001 { blank with a := 0x3B })) (fun t => decide (znhc t = 0b0111) && decide (t.a = 0xEB) && decide (t.cost = 2)) := by
  decide
theorem test_V27 :
    gives (run [0xDE, 0x00] (flags 0b0001 { blank with a := 0x00 })) (fun t => decide (znhc t = 0b0111) && decide (t.a = 0xFF) && decide (t.cost = 2)) := by
  decide
theorem test_V28 :
    gives (run [0xE6, 0x3F] { blank with a := 0x5A }) (fun t => decide (znhc t = 0b0010) && decide (t.a = 0x1A) && decide (t.cost = 2)) := by
  decide
theorem test_V30 :
    gives (run [0xF6, 0x00] (flags 0b0111 { blank with a := 0x00 })) (fun t => decide (znhc t = 0b1000) && decide (t.a = 0x00) && decide (t.cost = 2)) := by
  decide
theorem test_V32 :
    gives (run [0x3C] (flags 0b0001 { blank with a := 0xFF })) (fun t => decide (znhc t = 0b1011) && decide (t.a = 0x00) && decide (t.cost = 1)) := by
  decide
theorem test_V33 :
    gives (run [0x04] { blank with b := 0x0F }) (fun t => decide (znhc t = 0b0010) && decide (t.b = 0x10)) := by
  decide
theorem test_V34 :
    gives (run [0x3D] { blank with a := 0x00 }) (fun t => decide (znhc t = 0b0110) && decide (t.a = 0xFF)) := by
  decide
theorem test_V35 :
    gives (run [0x2D] { blank with l := 0x01 }) (fun t => decide (znhc t = 0b1100) && decide (t.l = 0x00)) := by
  decide
theorem test_V36 :
    gives (run [0x35] (atD000 0x10 (flags 0b0001 blank))) (fun t => decide (znhc t = 0b0111) && decide (t.peek 0xD000 = 0x0F) && decide (t.cost = 3)) := by
  decide
theorem test_V38 :
    gives (run [0x27] { blank with a := 0x9A }) (fun t => decide (znhc t = 0b1001) && decide (t.a = 0x00)) := by
  decide
theorem test_V40 :
    gives (run [0x27] (flags 0b0101 blank)) (fun t => decide (znhc t = 0b0101) && decide (t.a = 0xA0)) := by
  decide
theorem test_V41 :
    gives (run [0x2F] { blank with a := 0x35 }) (fun t => decide (znhc t = 0b0110) && decide (t.a = 0xCA)) := by
  decide
theorem test_V42 :
    gives (run [0x37] (flags 0b1110 blank)) (fun t => decide (znhc t = 0b1001)) := by
  decide
theorem test_V43 :
    gives (run [0x3F] (flags 0b0111 blank)) (fun t => decide (znhc t = 0b0000)) := by
  decide
theorem test_V44 :
    gives (run [0x07] { blank with a := 0x85 }) (fun t => decide (znhc t = 0b0001) && decide (t.a = 0x0B)) := by
  decide
theorem test_V45 :
    gives (run [0x07] (flags 0b1000 blank)) (fun t => decide (znhc t = 0b0000) && decide (t.a = 0x00)) := by
  decide
theorem test_V46 :
    gives (run [0x0F] { blank with a := 0x01 }) (fun t => decide (znhc t = 0b0001) && decide (t.a = 0x80)) := by
  decide
theorem test_V47 :
    gives (run [0x17] { blank with a := 0x80 }) (fun t => decide (znhc t = 0b0001) && decide (t.a = 0x00)) := by
  decide
theorem test_V48 :
    gives (run [0x1F] (flags 0b0001 { blank with a := 0x01 })) (fun t => decide (znhc t = 0b0001) && decide (t.a = 0x80)) := by
  decide
theorem test_V49 :
    gives (run [0xCB, 0x00] { blank with b := 0x00 }) (fun t => decide (znhc t = 0b1000) && decide (t.b = 0x00) && decide (t.cost = 2)) := by
  decide
theorem test_V50 :
    gives (run [0xCB, 0x09] { blank with c := 0x01 }) (fun t => decide (znhc t = 0b0001) && decide (t.c = 0x80) && decide (t.cost = 2)) := by
  decide
theorem test_V51 :
    gives (run [0xCB, 0x12] { blank with d := 0x80 }) (fun t => decide (znhc t = 0b1001) && decide (t.d = 0x00) && decide (t.cost = 2)) := by
  decide
theorem test_V52 :
    gives (run [0xCB, 0x1B] { blank with e := 0x01 }) (fun t => decide (znhc t = 0b1001) && decide (t.e = 0x00) && decide (t.cost = 2)) := by
  decide
theorem test_V53 :
    gives (run [0xCB, 0x24] { blank with h := 0xFF }) (fun t => decide (znhc t = 0b0001) && decide (t.h = 0xFE) && decide (t.cost = 2)) := by
  decide
theorem test_V54 :
    gives (run [0xCB, 0x2D] { blank with l := 0x81 }) (fun t => decide (znhc t = 0b0001) && decide (t.l = 0xC0) && decide (t.cost = 2)) := by
  decide
theorem test_V57 :
    gives (run [0xCB, 0x3F] { blank with a := 0x01 }) (fun t => decide (znhc t = 0b1001) && decide (t.a = 0x00) && decide (t.cost = 2)) := by
  decide
theorem test_V55 :
    gives (run [0xCB, 0x37] (flags 0b0001 { blank with a := 0xF0 })) (fun t => decide (znhc t = 0b0000) && decide (t.a = 0x0F) && decide (t.cost = 2)) := by
  decide
theorem test_V58 :
    gives (run [0xCB, 0x3E] (atD000 0x80 blank)) (fun t => decide (znhc t = 0b0000) && decide (t.peek 0xD000 = 0x40) && decide (t.cost = 4)) := by
  decide
theorem test_V59 :
    gives (run [0xCB, 0x7C] (flags 0b0001 { blank with h := 0x7F })) (fun t => decide (znhc t = 0b1011) && decide (t.h = 0x7F) && decide (t.cost = 2)) := by
  decide
theorem test_V61 :
    gives (run [0xCB, 0x5E] (atD000 0x08 blank)) (fun t => decide (znhc t = 0b0010) && decide (t.peek 0xD000 = 0x08) && decide (t.cost = 3)) := by
  decide
theorem test_V62 :
    gives (run [0xCB, 0x87] (flags 0b1111 { blank with a := 0xFF })) (fun t => decide (znhc t = 0b1111) && decide (t.a = 0xFE) && decide (t.cost = 2)) := by
  decide
theorem test_V63 :
    gives (run [0xCB, 0xFE] (atD000 0x00 blank)) (fun t => decide (t.peek 0xD000 = 0x80) && decide (t.cost = 4)) := by
  decide
theorem test_V64 :
    gives (run [0x41] { blank with c := 0x99 }) (fun t => decide (t.b = 0x99) && decide (t.cost = 1)) := by
  decide
theorem test_V65 :
    gives (run [0x22] { blank with a := 0x01, h := 0xFF, l := 0xFF }) (fun t => decide (t.peek 0xFFFF = 0x01) && decide (t.h = 0x00) && decide (t.l = 0x00) && decide (t.cost = 2)) := by
  decide
theorem test_V66 :
    gives (run [0x3A] (atD000 0x42 blank)) (fun t => decide (t.a = 0x42) && decide (t.h = 0xCF) && decide (t.l = 0xFF) && decide (t.cost = 2)) := by
  decide
theorem test_V67 :
    gives (run [0xE0, 0x80] { blank with a := 0x12 }) (fun t => decide (t.peek 0xFF80 = 0x12) && decide (t.cost = 3)) := by
  decide
theorem test_V68 :
    gives (run [0xF2] (mem 0xFF44 [0x90] { blank with c := 0x44 })) (fun t => decide (t.a = 0x90) && decide (t.cost = 2)) := by
  decide
theorem test_V70 :
    gives (run [0x08, 0xFF, 0xFF] { blank with sp := 0x1234 }) (fun t => decide (t.peek 0xFFFF = 0x34) && decide (t.peek 0x0000 = 0x12) && decide (t.cost = 5)) := by
  decide
theorem test_V71 :
    gives (run [0x01, 0x34, 0x12] blank) (fun t => decide (t.b = 0x12) && decide (t.c = 0x34) && decide (t.cost = 3)) := by
  decide
theorem test_V72 :
    gives (run [0xF9] { blank with h := 0xDF, l := 0xF0 }) (fun t => decide (t.sp = 0xDFF0) && decide (t.cost = 2)) := by
  decide
theorem test_V73 :
    gives (run [0xFA, 0x00, 0xD0] (mem 0xD000 [0x5C] blank)) (fun t => decide (t.a = 0x5C) && decide (t.cost = 4)) := by
  decide
theorem test_V74 :
    gives (run [0xF1] (mem 0xD000 [0xBF, 0x12] { blank with sp := 0xD000 })) (fun t => decide (t.a = 0x12) && decide (znhc t = 0b1011) && decide (t.sp = 0xD002) && decide (t.cost = 3)) := by
  decide
theorem test_V75 :
    gives (run [0xF5] (flags 0b1011 { blank with a := 0x12, sp := 0xD000 })) (fun t => decide (t.peek 0xCFFF = 0x12) && decide (t.peek 0xCFFE = 0xB0) && decide (t.sp = 0xCFFE) && decide (t.cost = 4)) := by
  decide
theorem test_V76 :
    gives (run [0xC1] (mem 0xFFFF [0x34, 0x12] { blank with sp := 0xFFFF })) (fun t => decide (t.b = 0x12) && decide (t.c = 0x34) && decide (t.sp = 0x0001) && decide (t.cost = 3)) := by
  decide
theorem test_V77 :
    gives (run [0x03] (flags 0b1111 { blank with b := 0xFF, c := 0xFF })) (fun t => decide (t.b = 0x00) && decide (t.c = 0x00) && decide (znhc t = 0b1111) && decide (t.cost = 2)) := by
  decide
theorem test_V78 :
    gives (run [0x0B] blank) (fun t => decide (t.b = 0xFF) && decide (t.c = 0xFF) && decide (znhc t = 0b0000) && decide (t.cost = 2)) := by
  decide
theorem test_V79 :
    gives (run [0x09] (flags 0b1000 { blank with h := 0x8A, l := 0x23, b := 0x06, c := 0x05 })) (fun t => decide (t.h = 0x90) && decide (t.l = 0x28) && decide (znhc t = 0b1010) && decide (t.cost = 2)) := by
  decide
theorem test_V80 :
    gives (run [0x29] { blank with h := 0x8A, l := 0x23 }) (fun t => decide (t.h = 0x14) && decide (t.l = 0x46) && decide (znhc t = 0b0011)) := by
  decide
theorem test_V81 :
    gives (run [0x39] { blank with h := 0xF0, sp := 0x1000 }) (fun t => decide (t.h = 0x00) && decide (t.l = 0x00) && decide (znhc t = 0b0001)) := by
  decide
theorem test_V83 :
    gives (run [0xE8, 0xFF] { blank with sp := 0x00FF }) (fun t => decide (t.sp = 0x00FE) && decide (znhc t = 0b0011) && decide (t.cost = 4)) := by
  decide
theorem test_V84 :
    gives (run [0xE8, 0xFF] { blank with sp := 0x0000 }) (fun t => decide (t.sp = 0xFFFF) && decide (znhc t = 0b0000)) := by
  decide
theorem test_V85 :
    gives (run [0xF8, 0x08] (flags 0b1000 { blank with sp := 0xFFF8 })) (fun t => decide (t.h = 0x00) && decide (t.l = 0x00) && decide (znhc t = 0b0011) && decide (t.sp = 0xFFF8) && decide (t.cost = 3)) := by
  decide
theorem test_S5 :
    gives (run [0x18, 0xFE] { blank with pc := 0x00FF }) (fun t => decide (t.pc = 0x00FF) && decide (t.cost = 3)) := by
  decide
theorem test_V87 :
    gives (run [0x18, 0x7F] { blank with pc := 0xFFF0 }) (fun t => decide (t.pc = 0x0071) && decide (t.cost = 3)) := by
  decide
theorem test_V86 :
    gives (run [0x20, 0x02] (flags 0b1000 { blank with pc := 0x00FF })) (fun t => decide (t.pc = 0x0101) && decide (t.cost = 2)) := by
  decide
theorem test_S6 :
    gives (run [0xC2, 0x00, 0x80] (flags 0b1000 { blank with pc := 0x0150 })) (fun t => decide (t.pc = 0x0153) && decide (t.cost = 3)) := by
  decide
theorem test_V89 :
    gives (run [0xC2, 0x00, 0x80] { blank with pc := 0x0150 }) (fun t => decide (t.pc = 0x8000) && decide (t.cost = 4)) := by
  decide
theorem test_V90 :
    gives (run [0xDA, 0x00, 0x80] (flags 0b0001 { blank with pc := 0x0150 })) (fun t => decide (t.pc = 0x8000) && decide (t.cost = 4)) := by
  decide
theorem test_V91 :
    gives (run [0xC3, 0x00, 0x40] { blank with pc := 0xFFFE }) (fun t => decide (t.pc = 0x4000) && decide (t.cost = 4)) := by
  decide
theorem test_S7 :
    gives (run [0xC3, 0x34, 0x12] (flags 0b1111 { blank with pc := 0x0200 })) (fun t => decide (t.pc = 0x1234) && decide (znhc t = 0b1111) && decide (t.cost = 4)) := by
  decide
theorem test_V92 :
    gives (run [0xCD, 0x00, 0x30] { blank with pc := 0x0200 }) (fun t => decide (t.peek 0xFFFD = 0x02) && decide (t.peek 0xFFFC = 0x03) && decide (t.sp = 0xFFFC) && decide (t.pc = 0x3000) && decide (t.cost = 6)) := by
  decide
theorem test_V93 :
    gives (run [0xCD, 0x00, 0x30] { blank with pc := 0x0200, sp := 0x0001 }) (fun t => decide (t.peek 0x0000 = 0x02) && decide (t.peek 0xFFFF = 0x03) && decide (t.sp = 0xFFFF) && decide (t.cost = 6)) := by
  decide
theorem test_V94 :
    gives (run [0xDC, 0x00, 0x30] { blank with pc := 0x0200 }) (fun t => decide (t.pc = 0x0203) && decide (t.sp = 0xFFFE) && decide (t.cost = 3)) := by
  decide
theorem test_V95 :
    gives (run [0xC4, 0x00, 0x30] { blank with pc := 0x0200 }) (fun t => decide (t.pc = 0x3000) && decide (t.cost = 6)) := by
  decide
theorem test_V96 :
    gives (run [0xC9] (mem 0xFFFC [0x03, 0x02] { blank with sp := 0xFFFC })) (fun t => decide (t.pc = 0x0203) && decide (t.sp = 0xFFFE) && decide (t.cost = 4)) := by
  decide
theorem test_V97 :
    gives (run [0xC8] { blank with pc := 0x0300 }) (fun t => decide (t.pc = 0x0301) && decide (t.sp = 0xFFFE) && decide (t.cost = 2)) := by
  decide
theorem test_V98 :
    gives (run [0xC8] (mem 0xD000 [0x00, 0x40] (flags 0b1000 { blank with pc := 0x0300, sp := 0xD000 }))) (fun t => decide (t.pc = 0x4000) && decide (t.sp = 0xD002) && decide (t.cost = 5)) := by
  decide
theorem test_V99 :
    gives (run [0xD9] (mem 0xFFFC [0x03, 0x02] { blank with sp := 0xFFFC })) (fun t => decide (t.pc = 0x0203) && decide (t.sp = 0xFFFE) && t.ime && decide (t.cost = 4)) := by
  decide
theorem test_V100 :
    gives (run [0xFF] { blank with pc := 0x0150, sp := 0xD000 }) (fun t => decide (t.peek 0xCFFF = 0x01) && decide (t.peek 0xCFFE = 0x51) && decide (t.sp = 0xCFFE) && decide (t.pc = 0x0038) && decide (t.cost = 4)) := by
  decide
theorem test_V101 :
    gives (run [0xE9] { blank with h := 0x40 }) (fun t => decide (t.pc = 0x4000) && decide (t.cost = 1)) := by
  decide
theorem test_V102 :
    gives (run [0x00] { blank with pc := 0x0100 }) (fun t => decide (t.pc = 0x0101) && decide (t.cost = 1)) := by
  decide
theorem test_V103 :
    gives (run [0x76] { blank with pc := 0x0200 }) (fun t => decide (t.pc = 0x0200) && decide (t.cost = 1)) := by
  decide
theorem test_V104 :
    gives (run [0x10, 0x00] { blank with pc := 0x0300 }) (fun t => decide (t.pc = 0x0300) && decide (t.cost = 1)) := by
  decide
theorem test_V107 :
    gives (run [0xFB] blank) (fun t => !t.ime && t.eiPending && decide (t.cost = 1)) := by
  decide
theorem test_V107_next :
    gives (run [0x00] { blank with eiPending := true }) (fun t => t.ime && !t.eiPending) := by
  decide
theorem test_V108 :
    gives (run [0xF3] { blank with eiPending := true }) (fun t => !t.ime && !t.eiPending) := by
  decide
theorem test_V112 :
    gives (run [0x36, 0x00] { blank with h := 0xC0 }) (fun t => decide (t.peek 0xC000 = 0x00) && decide (t.pc = 0xC002) && decide (t.cost = 3)) := by
  decide
theorem test_V113 :
    gives (run [0xCB, 0x36] { blank with h := 0xC0, l := 0x01 }) (fun t => decide (t.peek 0xC001 = 0x63) && decide (t.cost = 4)) := by
  decide

/-! ## Faults, parameters and the interrupt port (V105 to V118) -/

theorem test_V105 :
    ∃ t, run [0xD3] { blank with pc := 0x0200 } = .fault (.unimplemented 0xD3 0x0200 t) ∧ t.pc = 0x0200 ∧
      t.accesses = [.read 0x0200] ∧ step t = .fault (.unimplemented 0xD3 0x0200 t) := by
  exact ⟨_, rfl, rfl, rfl, rfl⟩
theorem test_V106 :
    ∃ t, run [0x00] { blank with pc := 0x0100, config := { opcodeSet := .sourceOnly, undefRead := .fault, interruptPort := .absent, memory := .array } } =
      .fault (.unimplemented 0x00 0x0100 t) := by
  exact ⟨_, rfl⟩
theorem test_V109 :
    ∃ t, run [0xD3] { blank with eiPending := true } = .fault (.unimplemented 0xD3 0xC000 t) ∧ t.ime = false ∧
      t.eiPending = true := by
  exact ⟨_, rfl, rfl, rfl⟩
theorem test_V110 :
    run [0x78] { blank with pc := 0x0000, specified := Specified.none } = .fault (.undefinedRead (.reg .b)) := by
  rfl
theorem test_V111 :
    run [0xCD, 0x00, 0x10] { blank with pc := 0x0002, a := 0x12, specified := { Specified.none with a := true } } =
      .fault (.undefinedRead .sp) := by
  rfl
theorem test_V114 : interrupt 0 { ported with pc := 0x0150 } = .next (.notAccepted, { ported with pc := 0x0150 }) := by
  rfl
theorem test_V115 :
    replies (interrupt 0 { ported with pc := 0x0150, ime := true }) (fun r t =>
      decide (r = .accepted 5) && decide (t.peek 0xFFFD = 0x01) && decide (t.peek 0xFFFC = 0x50) &&
      decide (t.sp = 0xFFFC) && decide (t.pc = 0x0040) && !t.ime) := by
  decide
theorem test_V116 :
    replies (interrupt 4 (mem 0x0300 [0x10, 0x00] { ported with pc := 0x0300, ime := true })) (fun r t =>
      decide (r = .accepted 5) && decide (t.peek 0xFFFD = 0x03) && decide (t.peek 0xFFFC = 0x02) &&
      decide (t.pc = 0x0060)) := by
  decide
theorem test_V117 :
    replies (wake (mem 0x0200 [0x76] { ported with pc := 0x0200 })) (fun r t =>
      decide (r = .woken) && decide (t.pc = 0x0201) && decide (t.sp = 0xFFFE)) := by
  decide
theorem test_stop_text : renderInstr (.stop 0x00) 0x0300 = "STOP $00" ∧ renderInstr (.stop 0xA5) 0x0300 = "STOP $A5" := by
  decide
theorem test_external_read :
    gives (exec .ld_A_atHL { external with h := 0xFF, l := 0x40 }) (fun t =>
      decide (t.history = [.read 0xC000, .read 0xFF40]) && decide (t.accesses = t.history) && decide (t.mem = [])) := by
  rfl
theorem test_external_read_value :
    ∃ t, exec .ld_A_atHL { external with h := 0xFF, l := 0x40 } = .next t ∧
      t.a = Config.externalRead [] [.read 0xC000] 0xFF40 := by
  exact ⟨_, rfl, rfl⟩
theorem test_external_illegal :
    ∃ t, exec (.illegal 0xFD) { external with history := [.read 0xFF40] } = .fault (.unimplemented 0xFD 0xC000 t) ∧
      t.history = [.read 0xFF40, .read 0xC000] ∧ t.accesses = [.read 0xC000] := by
  exact ⟨_, rfl, rfl, rfl⟩
theorem test_external_write :
    gives (exec .ld_atHL_A { external with a := 0x5A, h := 0xFF, l := 0x40 }) (fun t =>
      decide (t.history = [.read 0xC000, .write 0xFF40 0x5A]) && decide (t.mem = [])) := by
  rfl
theorem test_fetch_word_external :
    step (external.withFetchWord 16 0xCB37) = exec .swap_A (external.withFetchWord 16 0xCB37) := by
  rfl
theorem test_V118 : (readWord 0xFFFF (mem 0xFFFF [0x34, 0x12] blank)).1 = 0x1234 := by rfl

/-! ## Witnesses: concrete instructions and states that meet the hypotheses of each statement -/

theorem witness_DecodeOfEncode :
    Instr.wellFormed (.ld_SP_nn 0xFFFF) = true ∧ (∀ sub, Instr.ld_SP_nn 0xFFFF ≠ .prefix_CB sub) ∧
      Instr.wellFormed (.illegal 0xFD) = true ∧ ∀ sub, Instr.illegal 0xFD ≠ .prefix_CB sub := by
  exact ⟨rfl, (by intro _ h; cases h), rfl, (by intro _ h; cases h)⟩
theorem witness_EncodeOfDecode :
    decode [0xC3, 0xFF, 0xFF, 0x00] = .ok (.jp_nn 0xFFFF, [0x00]) ∧ decode [0x10, 0xFF] = .ok (.stop 0xFF, []) := by
  exact ⟨rfl, rfl⟩
theorem witness_LengthFromFirstByte :
    decode [0x08, 0xFF, 0xFF] = .ok (.ld_atnn_SP 0xFFFF, []) := by
  rfl
theorem witness_BuildRefusesDuplicatePatterns :
    build 0 [descriptor 0xFF] [] = .ok [descriptor 0xFF] ∧
      build 0xCB00 [cbDescriptor 0xFF, cbDescriptor 0xFF] [] = .error (.tableConstruction 0xCBFF) := by
  exact ⟨rfl, rfl⟩
theorem witness_LookupIsTheTable :
    hasDescriptor .full 0xFD = false ∧ hasDescriptor .sourceOnly 0x18 = true ∧ hasDescriptor .full 0xCB = true ∧
      (mem 0xFFFF [0xCB] { blank with pc := 0xFFFF }).peek 0xFFFF = 0xCB := by
  decide
theorem witness_StepRunsDecodedInstruction :
    let s := mem 0xFFFF [0xC6, 0x80] { blank with pc := 0xFFFF, eiPending := true }
    hasDescriptor s.config.opcodeSet (s.peek s.pc) = true ∧
      decode [s.peek s.pc, s.answer [.read s.pc] (s.pc + 1), s.answer [.read s.pc, .read (s.pc + 1)] (s.pc + 2)] =
        .ok (.add_A_n 0x80, [0x00]) ∧
      (∀ n ∈ formReads (Instr.form (.add_A_n 0x80)) s, s.specified.get n = true) := by
  exact ⟨rfl, rfl, by decide⟩
theorem witness_StepRunsDecodedInstruction_draw :
    State.reset.config.undefRead = .draw ∧
      hasDescriptor State.reset.config.opcodeSet (State.reset.peek State.reset.pc) = true ∧
      decode State.reset.window =
        .ok (.nop, [0x00, 0x00]) := by
  exact ⟨rfl, rfl, rfl⟩
theorem witness_UnimplementedExactlyWithoutDescriptor :
    let s := mem 0xFFFF [0xED] { blank with pc := 0xFFFF }
    hasDescriptor s.config.opcodeSet (s.peek s.pc) = false ∧ s.config.memory = .array ∧
      ∃ t, step s = .fault (.unimplemented 0xED 0xFFFF t) := by
  exact ⟨rfl, rfl, _, rfl⟩
theorem witness_UndefinedReadExactly :
    let s := mem 0xC000 [0x70] { blank with specified := { Specified.all with l := false } }
    decode s.window = .ok (.ld_atHL_B, [0x00, 0x00]) ∧ hasDescriptor s.config.opcodeSet (s.peek s.pc) = true ∧
      formReads (Instr.form .ld_atHL_B) s = [.reg .h] ++ .reg .l :: [.reg .b] ∧
      s.specified.get (.reg .h) = true ∧ s.specified.get (.reg .l) = false := by
  exact ⟨rfl, rfl, rfl, rfl, rfl⟩
theorem witness_StepCompletes :
    let s := mem 0xC000 [0xFF] blank
    hasDescriptor s.config.opcodeSet (s.peek s.pc) = true ∧ ∀ n, s.specified.get n = true := by
  exact ⟨rfl, fun n => (by cases n with | reg r => cases r <;> rfl | _ => rfl)⟩
theorem witness_EveryInstructionCompletesAtItsCost :
    ∀ op, Instr.prefix_CB 0xFF ≠ .illegal op := by
  intro _ h; cases h
theorem witness_InvariantKeptByEveryStep :
    Inv (mem 0xC000 [0xF5] blank) ∧ ∃ t, step (mem 0xC000 [0xF5] blank) = .next t := by
  exact ⟨⟨by decide, by decide, by decide, by decide⟩, _, rfl⟩
theorem witness_InvariantAtConstruction :
    Memory.wf [(0, 0xFF), (65535, 0x01)] = true ∧
      ∃ s, construct .postBootDmg Config.atReset Drawn.zero [(0, 0xFF), (65535, 0x01)] = .ok s := by
  have h : (match construct .postBootDmg Config.atReset Drawn.zero [(0, 0xFF), (65535, 0x01)] with
      | .ok _ => true
      | .error _ => false) = true := by
    decide +kernel
  cases hc : construct .postBootDmg Config.atReset Drawn.zero [(0, 0xFF), (65535, 0x01)] with
  | ok s => exact ⟨rfl, s, rfl⟩
  | error e => rw [hc] at h; cases h
theorem witness_InvariantKeptByTheHost :
    Inv { ported with ime := true } ∧ (∃ t, act (.interrupt 4) { ported with ime := true } = .next t) ∧
      (∃ t, act .wake ported = .next t) ∧ (∃ t, act (.write (.pair .hl 0xFFFF)) ported = .next t) ∧
      Inv (mem 0xC000 [0xD3] ported) ∧ ∃ f, act .step (mem 0xC000 [0xD3] ported) = .fault f := by
  exact ⟨⟨by decide, by decide, by decide, by decide⟩, ⟨_, rfl⟩, ⟨_, rfl⟩, ⟨_, rfl⟩,
    ⟨by decide, by decide, by decide, by decide⟩, _, rfl⟩
theorem witness_ImeAndEiPendingAfterAStep :
    (let s := mem 0xC000 [0xFB] { blank with eiPending := true };
      decode s.window = .ok (.ei, [0x00, 0x00]) ∧ ∃ t, step s = .next t ∧ t.ime = true ∧ t.eiPending = false) ∧
    (let s := mem 0xC000 [0xF3] { blank with ime := true };
      decode s.window = .ok (.di, [0x00, 0x00]) ∧ ∃ t, step s = .next t ∧ t.ime = false) ∧
    (let s := mem 0xC000 [0xD9] blank;
      decode s.window = .ok (.reti, [0x00, 0x00]) ∧ ∃ t, step s = .next t ∧ t.ime = true) := by
  exact ⟨⟨rfl, _, rfl, rfl, rfl⟩, ⟨rfl, _, rfl, rfl⟩, rfl, _, rfl, rfl⟩
theorem witness_StepKeepsParameters :
    (∃ t, step (mem 0xC000 [0x06, 0xFF] blank) = .next t) ∧ blank.specified.get (.reg .b) = true := by
  exact ⟨⟨_, rfl⟩, rfl⟩
theorem witness_MemoryReadsWhatWasWritten :
    blank.config.memory = .array ∧ external.config.memory = .external ∧
      Memory.wf [(65534, 0x01)] = true ∧ 65535 < 65536 ∧ Memory.wf (Memory.write [(65534, 0x01)] 65535 0xFF) = true := by
  decide
theorem witness_StoreSeenByNextFetch :
    Instr.form (.ld_atHL_n 0x76) = .ldHlN 0x76 ∧
      ({ blank with pc := 0xFFFE, h := 0x00, l := 0x00 } : State).pair .hl = 0xFFFE + 2 := by
  decide
theorem witness_LdRegReg :
    Instr.form .ld_A_A = .ldRegReg .a .a ∧
      Instr.form .ld_B_L = .ldRegReg .b .l := by
  decide
theorem witness_LdThroughHl :
    Instr.form .ld_H_atHL = .ldRegHl .h ∧
      Instr.form .ld_atHL_L = .ldHlReg .l := by
  decide
theorem witness_LdImmediate :
    Instr.form (.ld_A_n 0xFF) = .ldRegN .a 0xFF ∧
      Instr.form (.ld_atHL_n 0xFF) = .ldHlN 0xFF := by
  decide
theorem witness_AccumulatorLoads :
    Instr.form .ld_A_atBC = .ldAInd .bc ∧
      Instr.form .ld_A_atDE = .ldAInd .de ∧
      Instr.form (.ld_A_atnn 0xFFFF) = .ldANn 0xFFFF ∧
      Instr.form (.ldh_A_atn 0xFF) = .ldhAN 0xFF ∧
      Instr.form .ld_A_atC = .ldAC := by
  decide
theorem witness_AccumulatorStores :
    Instr.form .ld_atBC_A = .ldIndA .bc ∧
      Instr.form .ld_atDE_A = .ldIndA .de ∧
      Instr.form (.ld_atnn_A 0xFFFF) = .ldNnA 0xFFFF ∧
      Instr.form (.ldh_atn_A 0xFF) = .ldhNA 0xFF ∧
      Instr.form .ld_atC_A = .ldCA := by
  decide
theorem witness_HlSteppingTransfers :
    Instr.form .ld_A_atHLinc = .ldAHlStep .inc ∧
      Instr.form .ld_A_atHLdec = .ldAHlStep .dec ∧
      Instr.form .ld_atHLinc_A = .ldHlStepA .inc ∧
      Instr.form .ld_atHLdec_A = .ldHlStepA .dec := by
  decide
theorem witness_LdPairImmediate :
    Instr.form (.ld_HL_nn 0xFFFF) = .ldRpNn (.pair .hl) 0xFFFF ∧
      Instr.form (.ld_SP_nn 0xFFFF) = .ldRpNn .sp 0xFFFF := by
  decide
theorem witness_StackPointerTransfers :
    Instr.form .ld_SP_HL = .ldSpHl ∧
      Instr.form (.ld_atnn_SP 0xFFFF) = .ldNnSp 0xFFFF := by
  decide
theorem witness_PushStoresAPair :
    Instr.form .push_AF = .push .af ∧
      Instr.form .push_HL = .push (.pair .hl) := by
  decide
theorem witness_PopLoadsAPair :
    Instr.form .pop_AF = .pop .af ∧
      Instr.form .pop_BC = .pop (.pair .bc) := by
  decide
theorem witness_StackRoundTrips :
    Instr.form .push_AF = .push .af ∧
      Instr.form .pop_BC = .pop (.pair .bc) ∧
      Instr.form (.call_nn 0xFFFF) = .call 0xFFFF ∧
      Instr.form .rst_38 = .rst 7 ∧
      Instr.form .ret = .ret := by
  decide
theorem witness_AddAndAdc :
    Instr.form .add_A_atHL = .alu .add (.opd .atHL) ∧
      Instr.form (.adc_A_n 0xFF) = .alu .adc (.imm 0xFF) := by
  decide
theorem witness_SubAndSbc :
    Instr.form .sub_A = .alu .sub (.opd (.reg .a)) ∧
      Instr.form (.sbc_A_n 0xFF) = .alu .sbc (.imm 0xFF) := by
  decide
theorem witness_AndAndOr :
    Instr.form .and_atHL = .alu .and (.opd .atHL) ∧
      Instr.form (.or_n 0xFF) = .alu .or (.imm 0xFF) := by
  decide
theorem witness_CompareSetsFlagsOnly :
    Instr.form .cp_A = .alu .cp (.opd (.reg .a)) ∧
      Instr.form (.cp_n 0xFF) = .alu .cp (.imm 0xFF) := by
  decide
theorem witness_ExclusiveOr :
    Instr.form .xor_A = .alu .xor (.opd (.reg .a)) ∧ Instr.form (.xor_n 0xFF) = .alu .xor (.imm 0xFF) ∧
      (AluSrc.imm 0xFF) ≠ .opd (.reg .a) ∧ (AluSrc.imm 0xFF) ≠ .opd .atHL ∧
      Instr.form .xor_atHL = .alu .xor (.opd .atHL) ∧ AluSrc.opd .atHL ≠ .opd (.reg .a) ∧ blank.config.memory = .array := by
  decide
theorem witness_IncrementAndDecrement :
    Instr.form .inc_A = .inc8 (.reg .a) ∧
      Instr.form .dec_atHL = .dec8 .atHL := by
  decide
theorem witness_DecimalAdjustAlgorithm :
    Instr.form .daa = .daa := by
  decide
theorem witness_DecimalArithmetic :
    Instr.form (.adc_A_n 0x99) = .alu .adc (.imm 0x99) ∧ Instr.form (.sbc_A_n 0x99) = .alu .sbc (.imm 0x99) ∧
      Instr.form .daa = .daa ∧ isDecimal 0x99 ∧ isDecimal (State.reset.reg .a) ∧ isDecimal (State.reset.source (.imm 0x99)) := by
  exact ⟨rfl, rfl, rfl, ⟨by decide, by decide⟩, ⟨by decide, by decide⟩, by decide, by decide⟩
theorem witness_ComplementAndCarryFlag :
    Instr.form .cpl = .cpl ∧
      Instr.form .scf = .scf ∧
      Instr.form .ccf = .ccf := by
  decide
theorem witness_AccumulatorRotates :
    Instr.form .rlca = .accRot .rlca ∧
      Instr.form .rra = .accRot .rra := by
  decide
theorem witness_CbRotatesAndShifts :
    Instr.form .rlc_B = .cbRot .rlc (.reg .b) ∧
      Instr.form .srl_atHL = .cbRot .srl .atHL := by
  decide
theorem witness_BitTest :
    Instr.form .bit_0_B = .bit 0 (.reg .b) ∧
      Instr.form .bit_7_atHL = .bit 7 .atHL := by
  decide
theorem witness_ResetAndSetBit :
    Instr.form .res_0_B = (if false then .set 0 (.reg .b) else .res 0 (.reg .b)) ∧
      Instr.form .set_7_atHL = (if true then .set 7 .atHL else .res 7 .atHL) := by
  decide
theorem witness_IncrementAndDecrementPair :
    Instr.form .inc_SP = .inc16 .sp ∧
      Instr.form .dec_BC = .dec16 (.pair .bc) := by
  decide
theorem witness_AddToHl :
    Instr.form .add_HL_HL = .addHl (.pair .hl) ∧
      Instr.form .add_HL_SP = .addHl .sp := by
  decide
theorem witness_StackPointerPlusOffset :
    Instr.form (.add_SP_e 0x80) = .addSp 0x80 ∧
      Instr.form (.ld_HL_SPe 0x7F) = .ldHlSp 0x7F := by
  decide
theorem witness_UnconditionalJumps :
    Instr.form (.jp_nn 0xFFFF) = .jp 0xFFFF ∧
      Instr.form (.jr_e 0x80) = .jr 0x80 ∧
      Instr.form .jp_HL = .jpHl := by
  decide
theorem witness_ConditionalJumps :
    Instr.form (.jp_NZ_nn 0xFFFF) = .jpCc .nz 0xFFFF ∧
      Instr.form (.jr_C_e 0x80) = .jrCc .c 0x80 := by
  decide
theorem witness_CallsAndRestarts :
    Instr.form (.call_nn 0xFFFF) = .call 0xFFFF ∧ Instr.form (.call_Z_nn 0xFFFF) = .callCc .z 0xFFFF ∧
      Instr.form .rst_00 = .rst 0 ∧ Instr.form .rst_38 = .rst 7 ∧ blank.cond .z = false ∧ (flags 0b1000 blank).cond .z = true := by
  decide
theorem witness_Returns :
    Instr.form .ret = .ret ∧ Instr.form .ret_NC = .retCc .nc ∧ Instr.form .reti = .reti ∧
      blank.cond .nc = true ∧ (flags 0b0001 blank).cond .nc = false := by
  decide
theorem witness_SystemInstructions :
    Instr.form .nop = .nop ∧
      Instr.form .halt = .halt ∧
      Instr.form (.stop 0x55) = .stop 0x55 ∧
      Instr.form .di = .di ∧
      Instr.form .ei = .ei := by
  decide
theorem witness_InterruptEntry :
    blank.config.interruptPort = .absent ∧ ported.config.interruptPort = .present ∧ 4 < 5 ∧ 4 ≤ 4 ∧ ported.ime = false ∧
      ({ ported with ime := true } : State).ime = true ∧ ported.specified.get .sp = true ∧ ported.config.undefRead = .fault ∧
      ({ ported with specified := Specified.none } : State).specified.get .sp = false := by
  decide
theorem witness_WakeLeavesHaltAndStop :
    blank.config.interruptPort = .absent ∧ ported.config.interruptPort = .present := by
  decide
theorem witness_InterruptThenReti :
    (∃ t, interrupt 4 { ported with ime := true } = .next (.accepted 5, t)) ∧ Instr.form .reti = .reti := by
  exact ⟨⟨_, rfl⟩, rfl⟩

end Sys2Proof.Tests
end

section
/-!
PROOFS. The statements of 10_state.md: when a step answers UndefinedRead, what IME and EI_PENDING are after a step, that the
parameters and the "specified" bits are kept, what construction gives, and that a pair is a view of two registers.
-/

namespace Sys2Proof.Machine

/-! ## What a step keeps -/

/-- A step at a byte with a descriptor faults on a read exactly where the check of R180 names one: no meaning does. -/
theorem step_undefinedRead_iff {s : State} (h : hasDescriptor s.config.opcodeSet (s.peek s.pc) = true) (n : Named) :
    step s = .fault (.undefinedRead n) ↔ firstUnspecified (formReads s.windowInstr.form s) s = some n := by
  obtain ⟨t, ht, -⟩ := exec_window h
  cases hn : firstUnspecified (formReads s.windowInstr.form s) s with
  | none => simp [step_runs h hn ht]
  | some m => simp [step_unspecified h hn]

/-- Settles O11: the window decodes to one instruction, and the check finds the first unspecified of its reads. -/
theorem undefinedReadExactly : Obligations.UndefinedReadExactly := by
  intro s i rest hdec hdesc n
  obtain rfl := decode_window_eq hdec
  rw [step_undefinedRead_iff hdesc, firstUnspecified_some]

/-- Settles O19: the operation keeps both (`Kept`), and the EI delay touches neither. -/
theorem stepKeepsParameters : Obligations.StepKeepsParameters := by
  intro s t hstep
  obtain ⟨u, -, kept, rfl⟩ := step_next hstep
  simp only [eiDelay_config, eiDelay_specified]
  exact ⟨kept.config, kept.specified⟩

/-! ## IME and EI_PENDING -/

/-! The three forms that write IME or EI_PENDING (`Kept`) are the forms of one instruction each. -/

theorem form_eq_di_iff (i : Instr) : i.form = .di ↔ i = .di := by
  refine ⟨fun h => ?_, fun h => h ▸ rfl⟩
  cases i <;> cases h
  rfl

theorem form_eq_ei_iff (i : Instr) : i.form = .ei ↔ i = .ei := by
  refine ⟨fun h => ?_, fun h => h ▸ rfl⟩
  cases i <;> cases h
  rfl

theorem form_eq_reti_iff (i : Instr) : i.form = .reti ↔ i = .reti := by
  refine ⟨fun h => ?_, fun h => h ▸ rfl⟩
  cases i <;> cases h
  rfl

/-- Settles O18: DI, RETI and EI are the cases of `Kept.ime` and `Kept.eiPending`; the EI delay adds EI_PENDING to IME. -/
theorem imeAndEiPendingAfterAStep : Obligations.ImeAndEiPendingAfterAStep := by
  intro s t i rest hdec hstep
  obtain rfl := decode_window_eq hdec
  obtain ⟨u, -, kept, rfl⟩ := step_next hstep
  simp only [eiDelay_ime, eiDelay_eiPending, kept.ime, kept.eiPending, form_eq_di_iff, form_eq_ei_iff, form_eq_reti_iff]
  by_cases isDi : s.windowInstr = .di
  · simp [isDi]
  · by_cases isEi : s.windowInstr = .ei
    · simp [isEi]
    · simp [isDi, isEi, Bool.or_assoc]

/-! ## Construction -/

/-- The uniqueness check passes a list that claims no pattern twice, and none that the table holds (R172). -/
theorem build_ok_of_nodup (base : Nat) (ds : List Descriptor) (t : Table) (hnodup : (ds.map Descriptor.pattern).Nodup)
    (hfree : ∀ d ∈ ds, ∀ e ∈ t, e.pattern ≠ d.pattern) : ∃ t', build base ds t = .ok t' := by
  induction ds generalizing t with
  | nil => exact ⟨t, rfl⟩
  | cons d ds ih =>
    rw [List.map_cons, List.nodup_cons] at hnodup
    obtain ⟨hd, hds⟩ := hnodup
    have hfind : Table.find t d.pattern = none := by
      simpa [Table.find, List.find?_eq_none] using hfree d (by simp)
    simp only [build, hfind]
    refine ih (d :: t) hds fun x hx e he => ?_
    rcases List.mem_cons.mp he with rfl | he
    · exact fun h => hd (List.mem_map.mpr ⟨x, hx, h.symm⟩)
    · exact hfree x (List.mem_cons_of_mem _ hx) e he

/-- The builders emit no byte twice (R171). -/
theorem nodup_patterns (set : OpcodeSet) : (patterns set).Nodup := by
  have h : ((patterns set).map BitVec.toNat).Nodup := by cases set <;> decide +kernel
  exact h.of_map

/-- The sub-opcodes 0 to 255 are distinct bytes (R131). -/
theorem nodup_cbPatterns (set : OpcodeSet) : (cbPatterns set).Nodup := by
  cases set with
  | full =>
    refine List.nodup_range.map_on fun a ha b hb hab => ?_
    rw [List.mem_range] at ha hb
    bv_omega
  | sourceOnly => exact List.nodup_nil

theorem primaryTable_ok (set : OpcodeSet) : ∃ t, primaryTable set = .ok t :=
  build_ok_of_nodup 0 _ [] (by simpa [Function.comp_def, descriptor] using nodup_patterns set) (by simp)

theorem cbTable_ok (set : OpcodeSet) : ∃ t, cbTable set = .ok t :=
  build_ok_of_nodup 0xCB00 _ [] (by simpa [Function.comp_def, cbDescriptor] using nodup_cbPatterns set) (by simp)

/-- Construction never fails on the tables of the spec, and gives the state of its profile (R60, R530). -/
theorem construct_eq (profile : ResetProfile) (cfg : Config) (v : Drawn) (m : Memory) :
    construct profile cfg v m = .ok (initialState profile cfg v m) := by
  obtain ⟨_, hprimary⟩ := primaryTable_ok cfg.opcodeSet
  obtain ⟨_, hcb⟩ := cbTable_ok cfg.opcodeSet
  simp [construct, hprimary, hcb]

@[simp] theorem Specified.none_get (n : Named) : Specified.none.get n = false := by
  cases n with
  | reg r => cases r <;> rfl
  | _ => rfl

/-- Settles O24: construction succeeds, and the values are those of its profile's initial state. -/
theorem constructionValues : Obligations.ConstructionValues := by
  intro cfg v m
  refine ⟨⟨powerOn cfg v m, construct_eq .powerOn cfg v m, rfl, rfl, rfl, Specified.none_get⟩,
    ⟨postBootDmg cfg m, construct_eq .postBootDmg cfg v m, ?_⟩⟩
  simp [postBootDmg, State.reg]

/-! ## Pairs -/

/-- The value of a pair as a number (R32). -/
theorem pair_toNat (s : State) (p : Pair) :
    (s.pair p).toNat = (s.reg (Pair.hiReg p)).toNat * 256 + (s.reg (Pair.loReg p)).toNat :=
  wordOf_toNat _ _

/-- Writing a pair writes its two registers and nothing else (R33, R49). -/
theorem setPair_frame (s : State) (p : Pair) (v : Word) :
    Frame { regs := [Pair.hiReg p, Pair.loReg p] } s (s.setPair p v) := by
  constructor
  case regs =>
    intro r hr
    simp only [List.mem_cons, List.not_mem_nil, or_false, not_or] at hr
    obtain ⟨hhi, hlo⟩ := hr
    simp [hhi, hlo]
  case flags => intro f _; cases f <;> simp
  case specified => intro n; cases n <;> simp [Writes.covers, Bool.or_assoc]
  all_goals simp

/-- Settles O25: `pair` and `setPair` are reads and writes of the two registers, and a word is its two halves. -/
theorem pairsAreViews : Obligations.PairsAreViews := by
  intro s v b
  refine ⟨pair_toNat s .bc, pair_toNat s .de, pair_toNat s .hl, fun p => ⟨?_, ?_, ?_, setPair_frame s p v⟩,
    fun p => ⟨?_, ?_⟩⟩
  all_goals simp [(hiReg_ne_loReg _).symm]

end Sys2Proof.Machine
end

section
/-!
PROOFS. The statements of 20_memory.md: every step keeps the invariant, the array reads as last written while an external
`MEM` answers from its calls, word accesses are little-endian, and a store is seen by the next fetch.
-/

namespace Sys2Proof.Machine

/-! ## The invariant -/

/-- An operation keeps the invariant: each clause is one of what `Kept` says. -/
theorem Kept.inv {f : Form} {s t : State} (kept : Kept f s t) (hs : Inv s) : Inv t where
  memory := kept.memory hs.memory
  history h := by
    rw [kept.config] at h
    rw [kept.history, State.logged_array h, hs.history h]
  cost := kept.bounds.2
  accesses := kept.accesses

/-- The invariant does not speak of IME or EI_PENDING, all that the EI delay writes. -/
theorem inv_eiDelay {t : State} (ht : Inv t) (pend : Bool) : Inv (eiDelay pend t) where
  memory := by simpa using ht.memory
  history := by simpa using ht.history
  cost := by simpa using ht.cost
  accesses := by simpa using ht.accesses

/-- Settles O15: a next state is what the decoded operation answers and then the EI delay, and both keep the invariant. -/
theorem invariantKeptByEveryStep : Obligations.InvariantKeptByEveryStep := by
  intro s t hs hstep
  obtain ⟨u, -, kept, rfl⟩ := step_next hstep
  exact inv_eiDelay (kept.inv hs) _

/-! ## Byte accesses -/

/-- A byte write at one address is what a read there answers, and no other read sees it (R100). -/
theorem readByte_writeByte_array {s : State} (h : s.config.memory = .array) (a x : Word) (v : Byte) :
    (readByte x (writeByte a v s)).1 = if x = a then v else (readByte x s).1 := by
  simp [h]

/-- A read answers from the array (R81). -/
theorem readByte_array {s : State} (h : s.config.memory = .array) (a : Word) :
    (readByte a s).1 = Memory.read s.mem a.toNat := by
  simp [State.answer, h]

/-- A read answers from the image of an external `MEM` and every call made on it (log 4). -/
theorem readByte_external {s : State} (h : s.config.memory = .external) (a : Word) :
    (readByte a s).1 = Config.externalRead s.mem s.history a := by
  simp [State.answer_external h]

/-- Settles O20: the two kinds of `MEM` clause by clause, then the two facts about the canonical form. -/
theorem memoryReadsWhatWasWritten : Obligations.MemoryReadsWhatWasWritten := by
  refine ⟨fun a v s => ⟨rfl, writeByte_accesses a v s, fun h => ?array, fun h => ?external⟩,
    fun m a v hm ha => Memory.wf_write hm a v ha, fun m m' hm hm' => Memory.ext_from m m' 0 hm hm'⟩
  case array => exact ⟨readByte_array h a, rfl, fun x => readByte_writeByte_array h a x v⟩
  case external =>
    refine ⟨readByte_external h a, ?_, ?_, rfl, writeByte_mem_external a v h⟩
    · rw [readByte_snd, State.record_history, State.logged_external h]
    · rw [writeByte_history, State.logged_external h]

/-! ## Word and signed accesses -/

/-- The word at an address as a number, the low byte at the lower address (R82). -/
theorem peekWord_toNat (s : State) (a : Word) :
    (s.peekWord a).toNat = (s.answer [.read a] (a + 1)).toNat * 256 + (s.peek a).toNat :=
  wordOf_toNat _ _

/-- `s8` subtracts 256 where bit 7 is set (R10). -/
theorem s8_eq_ite (b : Byte) : s8 b = if b.toNat < 128 then (b.toNat : Int) else b.toNat - 256 := by
  rw [s8, BitVec.toInt_eq_toNat_cond]
  split <;> split <;> omega

/-- The range of a signed byte (R10). -/
theorem s8_bounds (b : Byte) : -128 ≤ s8 b ∧ s8 b ≤ 127 := by
  have := b.isLt
  rw [s8_eq_ite]
  split <;> omega

/-- Settles O21: a word read is `peekWord`, whose high address wraps as a word does, and a signed read is `s8`. -/
theorem wordAndSignedReads : Obligations.WordAndSignedReads := by
  intro a s
  refine ⟨?_, ?_, ?_, s8_eq_ite (s.peek a), s8_bounds (s.peek a)⟩
  · rw [readWord_fst, peekWord_toNat]
  · simp
  · rw [readWord_fst, peekWord_toNat, show (0xFFFF + 1 : Word) = 0x0000 from rfl]

/-- With the array, a word read returns the word written there: the high byte does not overwrite the low one (R84, R90). -/
theorem readWord_writeWord_array {s : State} (h : s.config.memory = .array) (a v : Word) :
    (readWord a (writeWord a v s)).1 = v := by
  simp [h]

/-- A word write changes the two bytes it addresses and nothing else (R84). -/
theorem writeWord_frame (a v : Word) (s : State) : Frame { bytes := [a, a + 1] } s (writeWord a v s) := by
  constructor
  case bytes =>
    intro h x hx
    obtain ⟨hlow, hhigh⟩ : x ≠ a ∧ x ≠ a + 1#16 := by simpa using hx
    simp [h, hlow, hhigh]
  case flags => intro f _; cases f <;> simp
  case specified => intro n; cases n <;> simp [Writes.covers]
  all_goals simp

/-- Settles O22: a word write is two byte writes, the low byte's first. -/
theorem wordWrites : Obligations.WordWrites := by
  intro a v s
  refine ⟨?_, fun h => readWord_writeWord_array h a v, ?_, ?_, writeWord_frame a v s⟩
  all_goals simp

/-! ## Instruction fetch -/

/-- With the array, the window is the three bytes from pc up, whatever was read before. -/
theorem window_array {s : State} (h : s.config.memory = .array) :
    s.window = [s.peek s.pc, s.peek (s.pc + 1), s.peek (s.pc + 2)] := by
  simp [State.window, h]

/-- Settles O23: LD (HL),n leaves pc at the byte it wrote, and the two bytes above it are others. -/
theorem storeSeenByNextFetch : Obligations.StoreSeenByNextFetch := by
  intro i n s hform hhl
  rw [exec_of_form hform]
  refine ⟨_, rfl, by simp, fun h => ?_⟩
  rw [window_array (by simp [h])]
  have hpc : wordOf (s.reg .h) (s.reg .l) = s.pc + 2 := hhl
  simp [h, hpc, BitVec.add_assoc]

end Sys2Proof.Machine
end

section
/-!
PROOFS. The statements of 30_encoding.md: the spec's words decode, decoding and encoding are inverse to each other, and the
first byte alone fixes an instruction's length. All rest on `headCell`, the cell of the map of R130 that a list of bytes
selects: `decode` is that cell, resolved (R177), where enough bytes stand.
-/

namespace Sys2Proof

open Sys2Proof.Machine

/-! ## The cell that a list of bytes selects -/

/-- The cell of the map of R130 at the head of a list of bytes, those past its end counting as 0. -/
def headCell (bs : List Byte) : Instr := decodePrimary (bs.getD 0 0) (bs.getD 1 0) (bs.getD 2 0)

theorem headCell_cons (op : Byte) (bs : List Byte) :
    headCell (op :: bs) = decodePrimary op (bs.getD 0 0) (bs.getD 1 0) := rfl

/-- 0xCB selects PREFIX_CB with the byte after it as sub-opcode (R177). -/
theorem headCell_prefix (sub : Byte) (rest : List Byte) : headCell ([0xCB, sub] ++ rest) = .prefix_CB sub :=
  (headCell_cons _ _).trans rfl

/-- In format `nn16` (R121) the word operand of the cell is the word encoded. -/
theorem headCell_nnBytes (op : Byte) (nn : Word) (rest : List Byte) :
    headCell (nnBytes op nn ++ rest) = cell (primaryMap (lo8 nn) nn) op := by
  simp [headCell, nnBytes, decodePrimary]

/-- Decoding gives the selected cell resolved, and the bytes after its length; it fails where they are too few (R136). -/
theorem decode_cons (op : Byte) (bs : List Byte) :
    decode (op :: bs) =
      if (headCell (op :: bs)).length ≤ (op :: bs).length then
        .ok ((headCell (op :: bs)).resolve, (op :: bs).drop (headCell (op :: bs)).length)
      else .error (.truncated op) := rfl

/-- What a successful decoding is, of the empty list too. -/
theorem decode_eq_ok_iff {bs : List Byte} {i : Instr} {rest : List Byte} :
    decode bs = .ok (i, rest) ↔
      (headCell bs).length ≤ bs.length ∧ (headCell bs).resolve = i ∧ bs.drop (headCell bs).length = rest := by
  cases bs with
  | nil =>
    have pos : 1 ≤ (headCell []).length := (length_decodePrimary_bounds 0 0 0).1
    simp [decode, Nat.one_le_iff_ne_zero.mp pos]
  | cons op bs =>
    by_cases h : (headCell (op :: bs)).length ≤ (op :: bs).length
    · rw [decode_cons, if_pos h]
      simp only [h, true_and, Except.ok.injEq, Prod.mk.injEq]
    · rw [decode_cons, if_neg h]
      exact iff_of_false (by simp) fun hok => h hok.1

/-! ## Decoding an encoding -/

/-- The CB table is behind PREFIX_CB alone (R177, log 8). -/
theorem resolve_eq_self {i : Instr} (h : ∀ sub, i ≠ .prefix_CB sub) : i.resolve = i := by
  unfold Instr.resolve
  split
  · exact absurd rfl (h _)
  · rfl

/-- An operation's encoding has its length (R120, R121). -/
theorem Form.length_encode (f : Form) : f.encode.length = f.length := by
  cases f with
  | alu op src => cases src <;> rfl
  | ldAInd p => cases p <;> rfl
  | ldIndA p => cases p <;> rfl
  | ldHlStepA k => cases k <;> rfl
  | ldAHlStep k => cases k <;> rfl
  | _ => rfl

/-- The operations of the CB map (R128, R131). -/
def Form.isCb : Form → Bool
  | .cbRot _ _ | .bit _ _ | .res _ _ | .set _ _ => true
  | _ => false

/-- Format `cb` (R121): 0xCB and a sub-opcode. -/
theorem encode_of_isCb {i : Instr} (h : i.form.isCb = true) : encode i = [0xCB, (encode i).getD 1 0] := by
  unfold encode
  generalize i.form = f at h ⊢
  cases f <;> cases h <;> rfl

/-- The sub-opcode written by the field law of R128 is where the map of R131 holds the instruction. -/
theorem decodeCb_encode {i : Instr} (h : i.form.isCb = true) : decodeCb ((encode i).getD 1 0) = i := by
  cases i <;> cases h <;> rfl

/-- Outside the CB map, the bytes written by the field laws (R121 to R129) select the cell of the map of R130 that holds the
instruction. The constructors are those with a word operand, whose two bytes make that word again, ILLEGAL with its eleven
bytes, and the others, where the first byte is a literal and the cell is looked up. -/
theorem headCell_encode {i : Instr} (hwf : i.wellFormed = true) (hcb : i.form.isCb = false) (rest : List Byte) :
    headCell (encode i ++ rest) = i := by
  cases i
  case ld_BC_nn nn | ld_DE_nn nn | ld_HL_nn nn | ld_SP_nn nn | ld_atnn_SP nn | ld_atnn_A nn | ld_A_atnn nn | jp_nn nn
      | jp_NZ_nn nn | jp_Z_nn nn | jp_NC_nn nn | jp_C_nn nn | call_nn nn | call_NZ_nn nn | call_Z_nn nn | call_NC_nn nn
      | call_C_nn nn =>
    exact (headCell_nnBytes _ nn rest).trans rfl
  case illegal op =>
    have hop : op ∈ illegalBytes := List.contains_iff_mem.mp hwf
    simp only [illegalBytes, List.mem_cons, List.not_mem_nil, or_false] at hop
    refine (headCell_cons op rest).trans ?_
    rcases hop with rfl | rfl | rfl | rfl | rfl | rfl | rfl | rfl | rfl | rfl | rfl <;> rfl
  all_goals cases hcb <;> exact (headCell_cons _ _).trans rfl

/-- Both maps together: the encoding of a well-formed instruction selects that instruction, PREFIX_CB resolved (R177). -/
theorem resolve_headCell_encode {i : Instr} (hwf : i.wellFormed = true) (rest : List Byte) :
    (headCell (encode i ++ rest)).resolve = i.resolve := by
  cases hcb : i.form.isCb with
  | false => rw [headCell_encode hwf hcb]
  | true =>
    have hne : ∀ sub, i ≠ .prefix_CB sub := by rintro sub rfl; cases hcb
    rw [encode_of_isCb hcb, headCell_prefix, resolve_eq_self hne]
    exact decodeCb_encode hcb

/-- The encoding of a well-formed instruction decodes to it, PREFIX_CB to its CB instruction (R177, log 8). -/
theorem decode_encode {i : Instr} (hwf : i.wellFormed = true) (rest : List Byte) :
    decode (encode i ++ rest) = .ok (i.resolve, rest) := by
  have hcell := resolve_headCell_encode hwf rest
  have hlen : (headCell (encode i ++ rest)).length = (encode i).length := by
    rw [← (resolve_facts (headCell _)).1, hcell, (resolve_facts i).1]
    exact i.form.length_encode.symm
  rw [decode_eq_ok_iff, hlen]
  exact ⟨by simp, hcell, List.drop_left⟩

/-- Settles O2: decoding an encoding gives the instruction resolved (`decode_encode`), and only PREFIX_CB is resolved. -/
theorem decodeOfEncode : Obligations.DecodeOfEncode := by
  refine ⟨fun i rest hwf hne => ?_, fun sub rest => decode_encode rfl rest⟩
  rw [decode_encode hwf, resolve_eq_self hne]

/-! ## Encoding what was decoded -/

/-- A cell is well formed, and encodes to as many of the bytes that select it as it has (`encode_decodePrimary`). -/
theorem encode_resolve_decodePrimary (b1 b2 : Byte) : ∀ op, (decodePrimary op b1 b2).resolve.wellFormed = true ∧
      encode (decodePrimary op b1 b2).resolve = [op, b1, b2].take (decodePrimary op b1 b2).length :=
  byte_forall (encode_decodePrimary b1 b2)

/-- Where enough bytes stand, the zeros that `headCell` counts past the end are not taken. -/
theorem take_getD_three : ∀ {n : Nat} {bs : List Byte}, n ≤ 3 → n ≤ bs.length →
    [bs.getD 0 0, bs.getD 1 0, bs.getD 2 0].take n = bs.take n
  | 0, _, _, _ => rfl
  | 1, _ :: _, _, _ => rfl
  | 2, _ :: _ :: _, _, _ => rfl
  | 3, _ :: _ :: _ :: _, _, _ => rfl

/-- Settles O3: the cell encodes to the bytes taken off, and the rest is what stands after them. -/
theorem encodeOfDecode : Obligations.EncodeOfDecode := by
  intro bs i rest h
  obtain ⟨hlen, rfl, rfl⟩ := decode_eq_ok_iff.mp h
  have hle : (headCell bs).length ≤ 3 := (length_decodePrimary_bounds _ _ _).2
  obtain ⟨hwf, henc⟩ : (headCell bs).resolve.wellFormed = true ∧ encode (headCell bs).resolve = _ :=
    encode_resolve_decodePrimary _ _ _
  refine ⟨hwf, ?_⟩
  rw [henc, ← headCell, take_getD_three hle hlen, List.take_append_drop]

/-! ## Lengths -/

/-- Settles O4: the length is that of the cell, which its operand bytes do not change and the CB map keeps. -/
theorem lengthFromFirstByte : Obligations.LengthFromFirstByte := by
  intro op rest
  obtain ⟨hpos, hle⟩ := length_decodePrimary_bounds op 0 0
  have hcell : (headCell (op :: rest)).length = (decodePrimary op 0 0).length := length_decodePrimary op _ _
  refine ⟨(decodePrimary op 0 0).length, hpos, hle, length_decodePrimary op, ?_, fun i r h => ?_⟩
  · simp [decode_eq_ok_iff, hcell]
  · obtain ⟨-, rfl, rfl⟩ := decode_eq_ok_iff.mp h
    exact ⟨(resolve_facts _).1.trans hcell, by rw [hcell]⟩

/-! ## Words of the spec -/

/-- Settles O1: each word is looked up in the maps. -/
theorem specWordsDecode : Obligations.SpecWordsDecode := by
  unfold Obligations.SpecWordsDecode
  and_intros <;> rfl

end Sys2Proof
end

section
/-!
PROOFS. The statements of 40_dispatch.md: table construction refuses a byte claimed twice, the exposed table holds the
opcode set, a step runs the decoded instruction or answers Unimplemented, every instruction but ILLEGAL completes at its
cost, and the host's actions keep the invariant.
-/

namespace Sys2Proof

open Sys2Proof.Machine

/-! ## Word operands -/

/-- An instruction with its word operand set to 0. -/
def Instr.zeroWord : Instr → Instr
  | .ld_BC_nn _ => .ld_BC_nn 0
  | .ld_DE_nn _ => .ld_DE_nn 0
  | .ld_HL_nn _ => .ld_HL_nn 0
  | .ld_SP_nn _ => .ld_SP_nn 0
  | .ld_atnn_SP _ => .ld_atnn_SP 0
  | .ld_atnn_A _ => .ld_atnn_A 0
  | .ld_A_atnn _ => .ld_A_atnn 0
  | .jp_nn _ => .jp_nn 0
  | .jp_NZ_nn _ => .jp_NZ_nn 0
  | .jp_Z_nn _ => .jp_Z_nn 0
  | .jp_NC_nn _ => .jp_NC_nn 0
  | .jp_C_nn _ => .jp_C_nn 0
  | .call_nn _ => .call_nn 0
  | .call_NZ_nn _ => .call_NZ_nn 0
  | .call_Z_nn _ => .call_Z_nn 0
  | .call_NC_nn _ => .call_NC_nn 0
  | .call_C_nn _ => .call_C_nn 0
  | i => i

/-- No cost depends on a word operand (R551). -/
theorem costNow_zeroWord (i : Instr) (s : State) : costNow i.zeroWord s = costNow i s := by
  cases i <;> rfl

/-- In the map of R130 the word `nn` is in word operands alone. -/
theorem zeroWord_primaryMap (n : Byte) (nn : Word) :
    (primaryMap n nn).map (fun row => row.map Instr.zeroWord) = primaryMap n 0 := by
  simp only [primaryMap, primaryRow0, primaryRow1, primaryRow2, primaryRow3, primaryRow4, primaryRow5, primaryRow6,
    primaryRow7, primaryRow8, primaryRow9, primaryRowA, primaryRowB, primaryRowC, primaryRowD, primaryRowE, primaryRowF,
    Vector.map_mk, List.map_toArray, List.map_cons, List.map_nil]
  rfl

end Sys2Proof

namespace Sys2Proof.Machine

/-! ## Table construction -/

/-- A byte already claimed ends the construction (R172, R491). -/
theorem build_cons_claimed (base : Nat) {d x : Descriptor} (ds : List Descriptor) {t : Table}
    (h : Table.find t d.pattern = some x) :
    build base (d :: ds) t = .error (.tableConstruction (base + d.pattern.toNat)) := by
  simp [build, h]

/-- A byte not yet claimed is added (R172). -/
theorem build_cons_free (base : Nat) {d : Descriptor} (ds : List Descriptor) {t : Table}
    (h : Table.find t d.pattern = none) : build base (d :: ds) t = build base ds (d :: t) := by
  simp [build, h]

/-- What is found stands in the table under that byte. -/
theorem Table.mem_of_find {t : Table} {op : Byte} {d : Descriptor} (h : Table.find t op = some d) :
    d ∈ t ∧ d.pattern = op :=
  ⟨List.mem_of_find?_eq_some h, by simpa using List.find?_some h⟩

theorem Table.find_eq_none_iff {t : Table} {op : Byte} : Table.find t op = none ↔ op ∉ t.map Descriptor.pattern := by
  simp [Table.find]

/-- In a table that holds no byte twice each descriptor is found under its own. -/
theorem Table.find_of_mem {t : Table} (hnodup : (t.map Descriptor.pattern).Nodup) {d : Descriptor} (hd : d ∈ t) :
    Table.find t d.pattern = some d := by
  cases hfind : Table.find t d.pattern with
  | none => exact absurd (List.mem_map_of_mem hd) (Table.find_eq_none_iff.mp hfind)
  | some x =>
    obtain ⟨hx, hpattern⟩ := Table.mem_of_find hfind
    rw [List.inj_on_of_nodup_map hnodup hx hd hpattern]

/-- A construction that succeeds has added every descriptor, and no byte twice. -/
theorem build_ok {base : Nat} {ds : List Descriptor} {t t' : Table} (h : build base ds t = .ok t')
    (hnodup : (t.map Descriptor.pattern).Nodup) :
    t' = ds.reverse ++ t ∧ (t'.map Descriptor.pattern).Nodup := by
  induction ds generalizing t with
  | nil =>
    cases h
    exact ⟨rfl, hnodup⟩
  | cons d ds ih =>
    cases hfind : Table.find t d.pattern with
    | some x => rw [build_cons_claimed base ds hfind] at h; cases h
    | none =>
      rw [build_cons_free base ds hfind] at h
      have hcons : ((d :: t).map Descriptor.pattern).Nodup :=
        List.nodup_cons.mpr ⟨Table.find_eq_none_iff.mp hfind, hnodup⟩
      simpa using ih h hcons

/-- A construction that fails names a byte claimed twice, by the list or by the list and the table before it (R491). -/
theorem build_error {base : Nat} {ds : List Descriptor} {t : Table} {e : ConstructionError}
    (h : build base ds t = .error e) :
    ∃ d ∈ ds, e = .tableConstruction (base + d.pattern.toNat) ∧
      2 ≤ ((ds ++ t).map Descriptor.pattern).count d.pattern := by
  induction ds generalizing t with
  | nil => cases h
  | cons d ds ih =>
    cases hfind : Table.find t d.pattern with
    | some x =>
      rw [build_cons_claimed base ds hfind] at h
      obtain ⟨hx, hpattern⟩ := Table.mem_of_find hfind
      have hpos : 0 < (t.map Descriptor.pattern).count d.pattern :=
        List.count_pos_iff.mpr (List.mem_map.mpr ⟨x, hx, hpattern⟩)
      refine ⟨d, List.mem_cons_self, (Except.error.inj h).symm, ?_⟩
      simp only [List.cons_append, List.map_cons, List.map_append, List.count_cons_self, List.count_append]
      omega
    | none =>
      rw [build_cons_free base ds hfind] at h
      obtain ⟨x, hx, he, hcount⟩ := ih h
      refine ⟨x, List.mem_cons_of_mem d hx, he, ?_⟩
      rwa [List.cons_append, ← (List.perm_middle.map Descriptor.pattern).count_eq]

/-- From the empty table the construction gives the list in reverse, whose bytes are distinct. -/
theorem build_nil_ok {base : Nat} {ds : List Descriptor} {t : Table} (h : build base ds [] = .ok t) :
    t = ds.reverse ∧ (t.map Descriptor.pattern).Nodup := by
  simpa using build_ok h List.nodup_nil

/-- Settles O6: success is `build_ok` and `build_ok_of_nodup`, failure is `build_error`. -/
theorem buildRefusesDuplicatePatterns : Obligations.BuildRefusesDuplicatePatterns := by
  intro base ds
  refine ⟨⟨?_, fun h => build_ok_of_nodup base ds [] h (by simp)⟩, fun t h => ⟨fun d hd => ?_, fun op d hfind => ?_⟩,
    fun e h => ?_⟩
  · rintro ⟨t, h⟩
    obtain ⟨rfl, hnodup⟩ := build_nil_ok h
    rwa [List.map_reverse, List.nodup_reverse] at hnodup
  · obtain ⟨rfl, hnodup⟩ := build_nil_ok h
    exact Table.find_of_mem hnodup (List.mem_reverse.mpr hd)
  · obtain ⟨rfl, -⟩ := build_nil_ok h
    obtain ⟨hd, hpattern⟩ := Table.mem_of_find hfind
    exact ⟨List.mem_reverse.mp hd, hpattern⟩
  · simpa using build_error h

/-- The primary table holds one descriptor for each byte the builders emit. -/
theorem primaryTable_eq (set : OpcodeSet) : primaryTable set = .ok ((patterns set).map descriptor).reverse := by
  obtain ⟨t, h⟩ := primaryTable_ok set
  rw [h, (build_nil_ok h).1]

/-- The CB sub-table holds one descriptor for each sub-opcode of the set. -/
theorem cbTable_eq (set : OpcodeSet) : cbTable set = .ok ((cbPatterns set).map cbDescriptor).reverse := by
  obtain ⟨t, h⟩ := cbTable_ok set
  rw [h, (build_nil_ok h).1]

/-- How many bytes the builders emit (R132, R133). -/
theorem length_patterns : (patterns .full).length = 245 ∧ (patterns .sourceOnly).length = 24 := by
  decide +kernel

/-- Settles O5: each table has as many descriptors as its builders emit bytes. -/
theorem tablesBuild : Obligations.TablesBuild := by
  refine ⟨⟨_, primaryTable_eq .full, ?_⟩, ⟨_, cbTable_eq .full, ?_⟩, ⟨_, primaryTable_eq .sourceOnly, ?_⟩,
    cbTable_eq .sourceOnly⟩
  · simp [length_patterns]
  · simp [cbPatterns]
  · simp [length_patterns]

/-! ## The exposed table -/

/-- The builders emit the bytes of the opcode set (R171, R132, R133). -/
theorem mem_patterns_iff (set : OpcodeSet) : ∀ op, op ∈ patterns set ↔ hasDescriptor set op = true := by
  have h : ∀ n, n < 256 → (patterns set).contains (BitVec.ofNat 8 n) = hasDescriptor set (BitVec.ofNat 8 n) := by
    cases set <;> decide +kernel
  refine byte_forall fun n hn => ?_
  rw [← h n hn, List.contains_iff_mem]

/-- `lookup` answers the descriptor of each byte of the opcode set and no other (R178). -/
theorem lookup_eq (set : OpcodeSet) (op : Byte) :
    lookup set op = if hasDescriptor set op = true then some (descriptor op) else none := by
  have hnodup := (build_nil_ok (primaryTable_eq set)).2
  simp only [lookup, primaryTable_eq]
  split
  case isTrue h =>
    have hop : op ∈ patterns set := (mem_patterns_iff set op).mpr h
    exact Table.find_of_mem (d := descriptor op) hnodup (List.mem_reverse.mpr (List.mem_map_of_mem hop))
  case isFalse h =>
    rw [Table.find_eq_none_iff]
    simpa [descriptor, mem_patterns_iff] using h

/-- Resolving PREFIX_CB changes no meaning (R177, log 8). -/
theorem exec_resolve (i : Instr) (s : State) : exec i.resolve s = exec i s := by
  by_cases h : ∃ sub, i = .prefix_CB sub
  · obtain ⟨sub, rfl⟩ := h
    exact (exec_prefix_CB_eq sub s).symm
  · rw [resolve_eq_self fun sub hi => h ⟨sub, hi⟩]

/-- Resolving PREFIX_CB changes no cost (R177, log 8). -/
theorem costNow_resolve (i : Instr) (s : State) : costNow i.resolve s = costNow i s := by
  by_cases h : ∃ sub, i = .prefix_CB sub
  · obtain ⟨sub, rfl⟩ := h
    exact formCost_decodeCb sub s
  · rw [resolve_eq_self fun sub hi => h ⟨sub, hi⟩]

/-- The third byte of a cell is in its word operand alone (R121, R130). -/
theorem zeroWord_decodePrimary (op b1 b2 : Byte) : (decodePrimary op b1 b2).zeroWord = cell (primaryMap b1 0) op := by
  rw [decodePrimary, cell_map Instr.zeroWord]
  simp only [zeroWord_primaryMap, cell]

/-- The cost of a cell does not depend on the third byte. -/
theorem costNow_decodePrimary (op b1 b2 b2' : Byte) (s : State) :
    costNow (decodePrimary op b1 b2) s = costNow (decodePrimary op b1 b2') s := by
  rw [← costNow_zeroWord, zeroWord_decodePrimary, ← zeroWord_decodePrimary op b1 b2', costNow_zeroWord]

/-- Settles O7: `lookup` answers `descriptor op` (`lookup_eq`); its action, length and cost are those of the window's
instruction, which is the same cell resolved. -/
theorem lookupIsTheTable : Obligations.LookupIsTheTable := by
  intro set op
  refine ⟨fun h => by simp [lookup_eq, h], fun h => ⟨descriptor op, by simp [lookup_eq, h], rfl, ?_⟩⟩
  rintro s rfl
  refine ⟨s.windowInstr, _, decode_window s, ?length, ?execute, ?cost, fun h => ?array⟩
  case length => exact ((resolve_facts _).1.trans (length_decodePrimary _ _ _)).symm
  case execute => exact (exec_resolve _ s).symm
  case cost => exact costNow_decodePrimary _ _ _ _ s
  case array =>
    have hnext : s.answer [.read s.pc] (s.pc + 1) = s.peek (s.pc + 1) := State.answer_array h _ _ _
    rw [State.windowInstr, costNow_resolve, hnext]
    exact costNow_decodePrimary _ _ _ _ s

/-! ## What an instruction answers -/

/-- Settles O13: every form completes at its cost (`run_next`), and PREFIX_CB at that of the CB instruction it runs. -/
theorem everyInstructionCompletesAtItsCost : Obligations.EveryInstructionCompletesAtItsCost := by
  intro i s hillegal
  rw [← exec_resolve, ← costNow_resolve, exec_eq_run]
  obtain ⟨-, hnotPrefix, hcell⟩ := resolve_facts i
  obtain ⟨t, ht, kept⟩ := run_next i.resolve.form s
    (fun op hf => hillegal op (hcell op (form_illegal hf))) fun sub hf => hnotPrefix sub (form_prefixCb hf)
  exact ⟨t, ht, kept.cost, kept.bounds⟩

/-- Settles O14: PREFIX_CB completes as every instruction but ILLEGAL does, and is its sub-descriptor (`exec_prefix_CB_eq`). -/
theorem prefixRunsSubDescriptor : Obligations.PrefixRunsSubDescriptor := by
  intro sub s
  obtain ⟨t, ht, -⟩ := everyInstructionCompletesAtItsCost (.prefix_CB sub) s nofun
  exact ⟨encode_decodeCb sub, t, ht, (exec_prefix_CB_eq sub s).symm.trans ht⟩

/-! ## What a step answers -/

/-- Settles O8: with nothing unspecified to read, the step is the instruction that the window decodes to, which completes. -/
theorem stepRunsDecodedInstruction : Obligations.StepRunsDecodedInstruction := by
  intro s i rest hdesc hdec hspec
  obtain rfl : i = s.windowInstr := decode_window_eq hdec
  obtain ⟨u, hu, -⟩ := exec_window hdesc
  have hstep := step_runs hdesc (firstUnspecified_none hspec) hu
  simp only [hu, hstep]
  refine ⟨?next, ?fault, ?refused⟩
  case next =>
    rintro t ⟨⟩
    simp [eiDelay]
  case fault => rintro f ⟨⟩
  case refused => rintro r ⟨⟩

/-- The step of R176 makes the one call, the opcode fetch (R94). -/
theorem opcodeRead_report (s : State) : Report 1 s.cost [] s s.opcodeRead := by
  constructor <;> simp [fetchReads]

/-- It changes nothing else (R176, R495). -/
theorem opcodeRead_frame (s : State) : Frame {} s s.opcodeRead := by
  constructor
  case bytes => intro h a _; simp [h]
  case flags => intro f _; cases f <;> rfl
  case specified => intro n; cases n <;> simp [Writes.covers]
  all_goals simp

/-- A step answers Unimplemented for the byte at pc, where that has no descriptor, and leaves the opcode fetch made. -/
theorem step_unimplemented_iff {s t : State} {op : Byte} {a : Word} :
    step s = .fault (.unimplemented op a t) ↔
      hasDescriptor s.config.opcodeSet (s.peek s.pc) = false ∧ op = s.peek s.pc ∧ a = s.pc ∧ t = s.opcodeRead := by
  constructor
  · intro h
    rcases step_fault h with ⟨hdesc, hf⟩ | ⟨-, n, hf⟩
    · cases hf
      exact ⟨hdesc, rfl, rfl, rfl⟩
    · cases hf
  · rintro ⟨hdesc, rfl, rfl, rfl⟩
    exact step_no_descriptor hdesc

/-- With the array, what the step of R176 leaves answers the same again. -/
theorem step_opcodeRead_array {s : State} (h : s.config.memory = .array)
    (hdesc : hasDescriptor s.config.opcodeSet (s.peek s.pc) = false) :
    step s.opcodeRead = .fault (.unimplemented (s.peek s.pc) s.pc s.opcodeRead) := by
  have hpeek : s.opcodeRead.peek s.opcodeRead.pc = s.peek s.pc := (opcodeRead_frame s).bytes h _ (by simp)
  rw [step_unimplemented_iff, hpeek, State.opcodeRead_again h]
  exact ⟨hdesc, rfl, rfl, rfl⟩

/-- Settles O9: the cases of `step_unimplemented_iff`, what the opcode fetch leaves, and the two lists of bytes. -/
theorem unimplementedExactlyWithoutDescriptor : Obligations.UnimplementedExactlyWithoutDescriptor := by
  refine ⟨fun s op a => by simp only [step_unimplemented_iff, exists_and_left, exists_eq, and_true],
    fun s t op a h => ?_, fun op => ?_, fun op => ?_⟩
  · obtain ⟨hdesc, rfl, rfl, rfl⟩ := step_unimplemented_iff.mp h
    exact ⟨rfl, opcodeRead_report s, opcodeRead_frame s, fun harray => ⟨rfl, step_opcodeRead_array harray hdesc⟩⟩
  · rw [hasDescriptor, Bool.not_eq_false', List.contains_iff_mem, illegalBytes]
  · rw [hasDescriptor, List.contains_iff_mem]
    rfl

/-! ## The host's actions -/

/-- What keeps memory, the cost and the parameters and makes at most five calls, which an external `MEM` is told, keeps the
invariant. -/
theorem inv_of_calls {s t : State} (hs : Inv s) (memory : Memory.wf s.mem = true → Memory.wf t.mem = true)
    (config : t.config = s.config) (history : t.history = s.logged t.accesses) (cost : t.cost ≤ 6)
    (accesses : t.accesses.length ≤ 5) : Inv t where
  memory := memory hs.memory
  history h := by
    rw [config] at h
    rw [history, State.logged_array h, hs.history h]
  cost := cost
  accesses := accesses

theorem inv_opcodeRead {s : State} (hs : Inv s) : Inv s.opcodeRead :=
  inv_of_calls hs id rfl (opcodeRead_report s).history hs.cost (by simp)

theorem inv_takeInterrupt (k : Nat) {s : State} (hs : Inv s) : Inv (takeInterrupt k s) := by
  obtain ⟨hmem, hcost, hcalls, hconfig, hhistory⟩ := takeInterrupt_kept k s
  exact inv_of_calls hs hmem hconfig hhistory (by omega) (by omega)

theorem inv_wakeState {s : State} (hs : Inv s) : Inv (wakeState s) := by
  obtain ⟨hmem, hcost, hcalls, hconfig, hhistory⟩ := wakeState_kept s
  exact inv_of_calls hs (by rw [hmem]; exact id) hconfig hhistory (by omega) (by omega)

/-- A register write touches no field that the invariant speaks of (R496). -/
theorem hostWrite_kept (x : HostWrite) (s : State) :
    (hostWrite x s).mem = s.mem ∧ (hostWrite x s).history = s.history ∧ (hostWrite x s).config = s.config ∧
      (hostWrite x s).cost = s.cost ∧ (hostWrite x s).accesses = s.accesses := by
  cases x <;> simp [hostWrite]

theorem inv_hostWrite (x : HostWrite) {s : State} (hs : Inv s) : Inv (hostWrite x s) := by
  obtain ⟨hmem, hhistory, hconfig, hcost, hcalls⟩ := hostWrite_kept x s
  obtain ⟨memory, history, cost, accesses⟩ := hs
  constructor
  · rwa [hmem]
  · rwa [hconfig, hhistory]
  · rwa [hcost]
  · rwa [hcalls]

/-- A fault of the interrupt port is UndefinedRead (R500, log 9). -/
theorem portState_interrupt_fault {k : Nat} {s : State} {f : Fault} (h : portState (interrupt k s) = .fault f) :
    ∃ n, f = .undefinedRead n := by
  unfold interrupt at h
  split at h
  · cases h
  · split at h
    · cases h
    · split at h
      · split at h
        · cases h; exact ⟨_, rfl⟩
        · cases h
      · cases h

/-- `wake()` never faults (R503). -/
theorem portState_wake_ne_fault (s : State) (f : Fault) : portState (wake s) ≠ .fault f := by
  unfold wake
  split <;> simp [portState]

/-- Settles O17: an action at a time, each answers a state with the invariant or faults as a step does. -/
theorem invariantKeptByTheHost : Obligations.InvariantKeptByTheHost := by
  intro x s hs
  cases x with
  | step =>
    refine ⟨fun t => invariantKeptByEveryStep s t hs, fun f h => ?_⟩
    rcases step_fault h with ⟨-, rfl⟩ | ⟨-, n, rfl⟩
    · exact inv_opcodeRead hs
    · exact hs
  | interrupt k =>
    refine ⟨fun t h => ?_, fun f h => ?_⟩
    · obtain ⟨r, hr⟩ := portState_next h
      rcases interrupt_next hr with ⟨-, -, rfl⟩ | ⟨-, -, rfl⟩
      · exact inv_takeInterrupt k hs
      · exact hs
    · obtain ⟨n, rfl⟩ := portState_interrupt_fault h
      exact hs
  | wake =>
    refine ⟨fun t h => ?_, fun f h => absurd h (portState_wake_ne_fault s f)⟩
    obtain ⟨r, hr⟩ := portState_next h
    obtain ⟨-, rfl⟩ := wake_next hr
    exact inv_wakeState hs
  | write w =>
    refine ⟨fun t h => ?_, fun f h => by cases h⟩
    cases h
    exact inv_hostWrite w hs

end Sys2Proof.Machine
end

section
/-!
PROOFS. The statements of 41_control_flow.md. Every jump, call and return is one of three actions after its fetch: pc set to
a target, an address pushed and pc set, or an address popped into pc. What each leaves is said once; a condition chooses
between two of them.
-/

namespace Sys2Proof

open Sys2Proof.Machine

/-- The bytes of an instruction whose form is known (R121). -/
theorem encode_of_form {i : Instr} {f : Form} (h : i.form = f) : encode i = f.encode := by
  rw [encode, h]

/-- The field y counts in eights (R122). -/
theorem opByte_eq (x y z : Nat) : opByte x y z = BitVec.ofNat 8 (64 * x + z + 8 * y) :=
  congrArg _ (Nat.add_right_comm _ _ _)

/-! ## Frames and reports, one rule for each state operation: what was framed before it, and what it writes itself -/

section
variable {w : Writes} {s t : State}

theorem Frame.fetched (n : Nat) (s : State) : Frame {} s (s.fetched n) := by
  constructor
  case bytes => intro h a _; simp [h]
  case flags => intro f _; cases f <;> simp
  case specified => intro n; cases n <;> simp [Writes.covers]
  all_goals simp

theorem Frame.setPc (h : Frame w s t) (v : Word) : Frame w s (t.setPc v) :=
  ⟨h.regs, h.sp, h.flags, h.ime, h.eiPending, h.bytes, h.config, h.specified⟩

theorem Frame.setCost (h : Frame w s t) (c : Nat) : Frame w s (t.setCost c) :=
  ⟨h.regs, h.sp, h.flags, h.ime, h.eiPending, h.bytes, h.config, h.specified⟩

theorem Frame.setIme (h : Frame w s t) (v : Bool) : Frame { w with ime := true } s (t.setIme v) :=
  ⟨h.regs, h.sp, h.flags, nofun, h.eiPending, h.bytes, h.config, h.specified⟩

theorem Frame.setSp (h : Frame w s t) (v : Word) : Frame { w with sp := true } s (t.setSp v) where
  regs := h.regs
  sp := nofun
  flags := h.flags
  ime := h.ime
  eiPending := h.eiPending
  bytes := h.bytes
  config := h.config
  specified n := by
    rw [State.setSp_specified, h.specified n]
    cases n <;> simp [Writes.covers]

theorem Frame.record (h : Frame w s t) (x : Access) : Frame w s (t.record x) where
  regs := h.regs
  sp := h.sp
  flags := h.flags
  ime := h.ime
  eiPending := h.eiPending
  bytes harray a ha := by
    have hm : t.config.memory = .array := h.config ▸ harray
    simpa [hm] using h.bytes harray a ha
  config := h.config
  specified := h.specified

theorem Frame.writeByte (h : Frame w s t) (x : Word) (v : Byte) :
    Frame { w with bytes := w.bytes ++ [x] } s (Machine.writeByte x v t) where
  regs r hr := by rw [writeByte_reg, h.regs r hr]
  sp hsp := by rw [writeByte_sp, h.sp hsp]
  flags f hf := by rw [← h.flags f hf]; cases f <;> simp
  ime hime := by rw [writeByte_ime, h.ime hime]
  eiPending hei := by rw [writeByte_eiPending, h.eiPending hei]
  bytes harray a ha := by
    have hm : t.config.memory = .array := h.config ▸ harray
    obtain ⟨hw, hx⟩ : a ∉ w.bytes ∧ a ≠ x := by simpa using ha
    simpa [hm, hx] using h.bytes harray a hw
  config := by rw [writeByte_config, h.config]
  specified n := by rw [writeByte_specified]; exact h.specified n

theorem Report.setIme {n c : Nat} {data : List Access} (h : Report n c data s t) (v : Bool) :
    Report n c data s (t.setIme v) where
  cost := h.cost
  accesses := h.accesses
  history := h.history
  image := h.image

end

end Sys2Proof

namespace Sys2Proof.Machine

/-! ## Jumps -/

/-- What a jump after the fetch of `n` bytes leaves: pc at the target and the fetch made. -/
theorem jump_effect (n c : Nat) (target : Word) (s : State) :
    ∃ t, done c ((s.fetched n).setPc target) = .next t ∧ t.pc = target ∧ Report n c [] s t ∧ Frame {} s t := by
  refine ⟨_, rfl, rfl, ?_, ((Frame.fetched n s).setPc target).setCost c⟩
  constructor <;> simp

/-- Going on to the next instruction is a jump to the address that the fetch left in pc. -/
theorem done_fetched_eq_setPc (n c : Nat) (s : State) :
    done c (s.fetched n) = done c ((s.fetched n).setPc (s.pc + BitVec.ofNat 16 n)) := by
  rw [← State.fetched_pc]
  rfl

@[simp] theorem fetched_cond (n : Nat) (s : State) (cc : Cond) : (s.fetched n).cond cc = s.cond cc := by
  cases cc <;> simp [State.cond]

/-- A signed offset is added modulo 65536 (R10, R203). -/
theorem add_sext16_toNat (p : Word) (e : Byte) : ((p + sext16 e).toNat : Int) = (p.toNat + e.toInt) % 65536 := by
  have h : (sext16 e).toInt = e.toInt := BitVec.toInt_signExtend_of_le (by decide)
  rw [← h, BitVec.toInt_eq_toNat_cond, BitVec.toNat_add]
  split <;> omega

/-- JP cc,nn is a jump to `nn` or to the next instruction (R202). -/
theorem opJpCc_eq (cc : Cond) (nn : Word) (s : State) :
    opJpCc cc nn s =
      done (if s.cond cc then 4 else 3) ((s.fetched 3).setPc (if s.cond cc then nn else s.pc + 3)) := by
  rw [opJpCc, fetched_cond]
  cases s.cond cc with
  | true => rfl
  | false => exact done_fetched_eq_setPc 3 3 s

/-- JR e is a jump by `e` from the address after its two bytes (R203). -/
theorem opJr_eq (e : Byte) (s : State) : opJr e s = done 3 ((s.fetched 2).setPc (s.pc + 2 + sext16 e)) := by
  rw [opJr, State.fetched_pc]
  rfl

/-- JR cc,e is a jump by `e` or by 0, which is to the next instruction (R204). -/
theorem opJrCc_eq (cc : Cond) (e : Byte) (s : State) :
    opJrCc cc e s =
      done (if s.cond cc then 3 else 2) ((s.fetched 2).setPc (s.pc + 2 + sext16 (if s.cond cc then e else 0))) := by
  rw [opJrCc, fetched_cond, State.fetched_pc]
  cases s.cond cc with
  | true => rfl
  | false =>
    have hzero : s.pc + 2 + sext16 0 = s.pc + 2 := BitVec.add_zero _
    simp only [Bool.false_eq_true, if_false, hzero]
    exact done_fetched_eq_setPc 2 2 s

/-- What a jump by `e` leaves. -/
theorem relativeJump_effect (c : Nat) (e : Byte) (s : State) :
    ∃ t, done c ((s.fetched 2).setPc (s.pc + 2 + sext16 e)) = .next t ∧
      (t.pc.toNat : Int) = (s.pc.toNat + 2 + e.toInt) % 65536 ∧ Report 2 c [] s t ∧ Frame {} s t := by
  obtain ⟨t, ht, hpc, report, frame⟩ := jump_effect 2 c (s.pc + 2 + sext16 e) s
  refine ⟨t, ht, ?_, report, frame⟩
  rw [hpc, add_sext16_toNat, BitVec.toNat_add]
  simp

/-- JP HL is a jump to the pair HL (R205). -/
theorem opJpHl_eq (s : State) : opJpHl s = done 1 ((s.fetched 1).setPc (s.pair .hl)) := by
  simp [opJpHl]

/-- Settles O53: each is the jump of `jump_effect`. -/
theorem unconditionalJumps : Obligations.UnconditionalJumps := by
  refine ⟨fun i nn s hform => ?jp, fun i e s hform => ?jr, fun i s hform => ?jpHl⟩
  all_goals rw [encode_of_form hform, exec_of_form hform, Form.run, Form.encode]
  case jp => exact ⟨rfl, jump_effect 3 4 nn s⟩
  case jr =>
    rw [opJr_eq]
    exact ⟨rfl, relativeJump_effect 3 e s⟩
  case jpHl =>
    rw [opJpHl_eq]
    exact ⟨rfl, jump_effect 1 1 (s.pair .hl) s⟩

/-- Settles O54: the cost and the target of the jump are chosen by the condition. -/
theorem conditionalJumps : Obligations.ConditionalJumps := by
  refine ⟨fun s => ⟨rfl, rfl, rfl, rfl⟩, fun i cc nn s hform => ?jpCc, fun i cc e s hform => ?jrCc⟩
  all_goals rw [encode_of_form hform, exec_of_form hform, Form.run, Form.encode, opByte_eq]
  case jpCc =>
    rw [opJpCc_eq]
    exact ⟨rfl, jump_effect 3 _ _ s⟩
  case jrCc =>
    have hoffset : (if s.cond cc then e.toInt else 0) = (if s.cond cc then e else 0).toInt :=
      (apply_ite BitVec.toInt _ e 0).symm
    rw [opJrCc_eq, hoffset, Nat.mul_add, ← Nat.add_assoc]
    exact ⟨rfl, relativeJump_effect _ _ s⟩

/-! ## Calls -/

/-- What a call after the fetch of `n` bytes leaves: the return address `v` pushed and pc at the target (R392). -/
theorem pushJump_effect (n c : Nat) (v target : Word) (s : State) :
    ∃ t, done c ((push16 v (s.fetched n)).setPc target) = .next t ∧ t.pc = target ∧ Pushed v s t ∧
      Report n c (pushCalls v s) s t ∧ Frame { sp := true, bytes := s.stackBytes } s t := by
  rw [push16_eq, State.fetched_sp]
  refine ⟨_, rfl, rfl, ?pushed, ?report, ?frame⟩
  case pushed => constructor <;> simp +contextual
  case report => constructor <;> simp +contextual [pushCalls]
  case frame =>
    exact (((((Frame.fetched n s).setSp _).writeByte _ _).setSp _).writeByte _ _ |>.setPc target).setCost c

/-- Where the condition holds, CALL cc,nn is CALL nn (R207). -/
theorem opCallCc_taken {cc : Cond} {s : State} (h : s.cond cc = true) (nn : Word) : opCallCc cc nn s = opCall nn s := by
  rw [opCallCc, fetched_cond, h]
  rfl

/-- Where it does not hold, it goes on to the next instruction (R207). -/
theorem opCallCc_not_taken {cc : Cond} {s : State} (h : s.cond cc = false) (nn : Word) :
    opCallCc cc nn s = done 3 ((s.fetched 3).setPc (s.pc + 3)) := by
  rw [opCallCc, fetched_cond, h]
  exact done_fetched_eq_setPc 3 3 s

/-- What holds of the answer where a condition holds and what holds of it where it does not are said of one answer. -/
theorem next_of_cond {r : Result} {b : Bool} {P Q : State → Prop} (taken : b = true → ∃ t, r = .next t ∧ P t)
    (notTaken : b = false → ∃ t, r = .next t ∧ Q t) :
    ∃ t, r = .next t ∧ (b = true → P t) ∧ (b = false → Q t) := by
  cases b with
  | true => obtain ⟨t, ht, hP⟩ := taken rfl; exact ⟨t, ht, fun _ => hP, nofun⟩
  | false => obtain ⟨t, ht, hQ⟩ := notTaken rfl; exact ⟨t, ht, nofun, fun _ => hQ⟩

/-- CALL nn pushes the address after its three bytes (R206). -/
theorem opCall_eq (nn : Word) (s : State) : opCall nn s = done 6 ((push16 (s.pc + 3) (s.fetched 3)).setPc nn) := by
  rw [opCall, State.fetched_pc]
  rfl

/-- RST t pushes the address after its one byte (R211). -/
theorem opRst_eq (y : Fin 8) (s : State) :
    opRst y s = done 4 ((push16 (s.pc + 1) (s.fetched 1)).setPc (BitVec.ofNat 16 (8 * y.val))) := by
  rw [opRst, State.fetched_pc]
  rfl

/-- Settles O55: CALL and RST are the call of `pushJump_effect`; CALL cc,nn is CALL or a jump to the next instruction. -/
theorem callsAndRestarts : Obligations.CallsAndRestarts := by
  refine ⟨fun i nn s hform => ?call, fun i cc nn s hform => ?callCc, fun i y s hform => ?rst⟩
  all_goals rw [encode_of_form hform, exec_of_form hform, Form.run, Form.encode]
  case call =>
    rw [opCall_eq]
    exact ⟨rfl, pushJump_effect 3 6 (s.pc + 3) nn s⟩
  case callCc =>
    rw [opByte_eq]
    refine ⟨rfl, next_of_cond (fun h => ?_) (fun h => ?_)⟩
    · rw [opCallCc_taken h, opCall_eq]
      exact pushJump_effect 3 6 (s.pc + 3) nn s
    · rw [opCallCc_not_taken h]
      exact jump_effect 3 3 (s.pc + 3) s
  case rst =>
    rw [opRst_eq, opByte_eq]
    exact ⟨rfl, pushJump_effect 1 4 (s.pc + 1) _ s⟩

/-! ## Returns -/

/-- What a return after the fetch of its one byte leaves: the word at sp popped into pc (R393). -/
theorem popJump_effect (c : Nat) (s : State) :
    ∃ t, done c ((pop16 (s.fetched 1)).2.setPc (pop16 (s.fetched 1)).1) = .next t ∧ t.pc = s.popped ∧
      t.sp = s.sp + 2 ∧ Report 1 c (popCalls s) s t ∧ Frame { sp := true } s t := by
  rw [pop16_snd, State.fetched_sp]
  refine ⟨_, rfl, ?pc, rfl, ?report, ?frame⟩
  case pc => simp
  case report => constructor <;> simp [popCalls]
  case frame =>
    exact (((((Frame.fetched 1 s).record _).setSp _).record _).setSp _ |>.setPc _).setCost c

/-- Where the condition holds, RET cc is a return (R209). -/
theorem opRetCc_taken {cc : Cond} {s : State} (h : s.cond cc = true) :
    opRetCc cc s = done 5 ((pop16 (s.fetched 1)).2.setPc (pop16 (s.fetched 1)).1) := by
  rw [opRetCc, fetched_cond, h]
  rfl

/-- Where it does not hold, it goes on to the next instruction (R209). -/
theorem opRetCc_not_taken {cc : Cond} {s : State} (h : s.cond cc = false) :
    opRetCc cc s = done 2 ((s.fetched 1).setPc (s.pc + 1)) := by
  rw [opRetCc, fetched_cond, h]
  exact done_fetched_eq_setPc 1 2 s

/-- RETI is RET, and then sets IME (R210). -/
theorem opReti_of_opRet {s t : State} (h : opRet s = .next t) : opReti s = .next (t.setIme true) := by
  cases h
  rfl

/-- Settles O56: RET is the return of `popJump_effect`; RET cc is that or a jump to the next instruction; RETI is RET with
IME set. -/
theorem returns : Obligations.Returns := by
  refine ⟨fun i s hform => ?ret, fun i cc s hform => ?retCc, fun i s hform => ?reti⟩
  all_goals rw [encode_of_form hform, exec_of_form hform, Form.run, Form.encode]
  case ret => exact ⟨rfl, popJump_effect 4 s⟩
  case retCc =>
    rw [opByte_eq]
    refine ⟨rfl, next_of_cond (fun h => ?_) (fun h => ?_)⟩
    · rw [opRetCc_taken h]
      exact popJump_effect 5 s
    · rw [opRetCc_not_taken h]
      exact jump_effect 1 2 (s.pc + 1) s
  case reti =>
    obtain ⟨t, ht, hpc, hsp, report, frame⟩ := popJump_effect 4 s
    exact ⟨rfl, _, opReti_of_opRet ht, hpc, hsp, rfl, report.setIme true, frame.setIme true⟩

end Sys2Proof.Machine
end

section
/-!
PROOFS. The statements of 42_compare_xor.md. CP and XOR are the ALU operation of `opAlu_effect`, so each statement is what
the outputs of `alu_cp` (R240) and `alu_xor` (R245) are; that XOR twice restores A rests on the operand being the same
byte the second time (`Frame.source_eq`).
-/

namespace Sys2Proof

open Sys2Proof.Machine

/-! ## ALU operations -/

/-- The bytes of an ALU operation, from its code in R127. -/
theorem Form.encode_alu (op : AluOp) (src : AluSrc) :
    (Form.alu op src).encode = src.encoding (128 + 8 * op.code) (opByte 3 op.code 6) := by
  cases src with
  | opd o => rfl
  | imm n => rfl

/-- An instruction that wrote A and flags alone leaves every other operand as it was: a register by the frame, (HL) because
the array answers the same whatever was read (R81), and n because it is the instruction's own. -/
theorem Frame.source_eq {flags : List Flag} {s t : State} (frame : Frame { regs := [.a], flags := flags } s t)
    {src : AluSrc} (notA : src ≠ .opd (.reg .a)) (hmem : s.config.memory = .array ∨ src ≠ .opd .atHL) :
    t.source src = s.source src := by
  match src with
  | .imm n => rfl
  | .opd (.reg r) => exact frame.regs r (by simpa using notA)
  | .opd .atHL =>
    have harray : s.config.memory = .array := hmem.resolve_right (not_not_intro rfl)
    have harray' : t.config.memory = .array := frame.config ▸ harray
    have hpair : t.pair .hl = s.pair .hl := congrArg₂ wordOf (frame.regs .h (by simp)) (frame.regs .l (by simp))
    calc t.data 1 (t.pair .hl)
      _ = t.peek (t.pair .hl) := State.answer_fetchReads_array harray' _ _ _
      _ = t.peek (s.pair .hl) := by rw [hpair]
      _ = s.peek (s.pair .hl) := frame.bytes harray _ List.not_mem_nil
      _ = s.data 1 (s.pair .hl) := (State.answer_fetchReads_array harray _ _ _).symm

/-! ## CP -/

/-- Settles O40: the effect of an ALU operation with the outputs of `alu_cp`; a lower high nibble is a lower byte. -/
theorem compareSetsFlagsOnly : Obligations.CompareSetsFlagsOnly := by
  intro i src s hform a b
  rw [encode_of_form hform, exec_of_form hform]
  obtain ⟨t, ht, -, hz, hn, hh, hc, hpc, report, frame⟩ := opAlu_effect .cp src s
  have hcarry : t.fC = decide (a / 16 < b / 16) := hc
  refine ⟨Form.encode_alu .cp src, t, ht, hz.trans (aluCp_z _ _), hn, hh, hcarry, fun h => ?_, hpc, report, frame⟩
  rw [hcarry, decide_eq_true_eq] at h
  exact Nat.lt_of_div_lt_div h

/-! ## XOR -/

/-- What XOR leaves: the effect of an ALU operation with the outputs of `alu_xor`. -/
theorem opXor_effect (src : AluSrc) (s : State) :
    ∃ t, opAlu .xor src s = .next t ∧ t.reg .a = s.reg .a ^^^ s.source src ∧
      t.fZ = decide (s.reg .a ^^^ s.source src = 0) ∧ t.fN = false ∧ t.fH = false ∧ t.fC = false ∧
      t.pc = s.pc + BitVec.ofNat 16 src.bytes ∧ Report src.bytes src.cycles (src.reads s) s t ∧
      Frame { regs := [.a], flags := [.z, .n, .h, .c] } s t :=
  opAlu_effect .xor src s

/-- Settles O41: `opXor_effect` once for the result, and twice with the same operand, which cancels. -/
theorem exclusiveOr : Obligations.ExclusiveOr := by
  refine ⟨fun i src s hform => ?once, fun i src s hform notA hmem => ?twice⟩
  case once =>
    rw [encode_of_form hform, exec_of_form hform]
    obtain ⟨t, ht, hres, hz, hn, hh, hc, rest⟩ := opXor_effect src s
    refine ⟨Form.encode_alu .xor src, t, ht, hres, hz, hn, hh, hc, ?_, rest⟩
    rintro rfl
    exact hres.trans BitVec.xor_self
  case twice =>
    obtain ⟨t, ht, hres, -, -, -, -, -, -, frame⟩ := opXor_effect src s
    obtain ⟨u, hu, hres', hz, -⟩ := opXor_effect src t
    have cancel : t.reg .a ^^^ t.source src = s.reg .a := by
      rw [hres, frame.source_eq notA hmem, BitVec.xor_assoc, BitVec.xor_self, BitVec.xor_zero]
    rw [cancel] at hres' hz
    exact ⟨t, u, (exec_of_form hform s).trans ht, (exec_of_form hform t).trans hu, hres', hz⟩

end Sys2Proof
end

section
/-!
PROOFS. The statements of 43_alu8.md. ADD, ADC, SUB, SBC, AND and OR are the ALU operation of `opAlu_effect` with the outputs
of their primitive; INC, DEC, DAA, CPL, SCF and CCF are writes after a fetch, each framed by its rule. Decimal arithmetic is
about numbers alone: DAA corrects a digit exactly where its sum or difference left the decimal range.
-/

namespace Sys2Proof

open Sys2Proof.Machine

/-! ## Frames, for the writes of an operand and of a flag -/

/-- One flag written, by its name. -/
def Machine.State.setFlag (f : Flag) (v : Bool) (s : State) : State :=
  match f with
  | .z => s.setZ v
  | .n => s.setN v
  | .h => s.setH v
  | .c => s.setC v

@[simp] theorem Machine.State.setFlag_flag (s : State) (f g : Flag) (v : Bool) :
    (s.setFlag f v).flag g = if g = f then v else s.flag g := by
  cases f <;> cases g <;> rfl

section
variable {w : Writes} {s t : State}

theorem Frame.setReg (h : Frame w s t) (r : Reg8) (v : Byte) :
    Frame { w with regs := w.regs ++ [r] } s (t.setReg r v) where
  regs x hx := by
    obtain ⟨hw, hr⟩ : x ∉ w.regs ∧ x ≠ r := by simpa using hx
    rw [State.setReg_reg, if_neg hr, h.regs x hw]
  sp hsp := by rw [← h.sp hsp]; simp
  flags f hf := by rw [← h.flags f hf]; cases f <;> simp
  ime hime := by rw [← h.ime hime]; simp
  eiPending hei := by rw [← h.eiPending hei]; simp
  bytes harray a ha := by rw [← h.bytes harray a ha]; simp
  config := by rw [← h.config]; simp
  specified n := by
    rw [State.setReg_specified, h.specified n]
    cases n <;> simp [Writes.covers, Bool.or_assoc]

theorem Frame.setFlag (h : Frame w s t) (f : Flag) (v : Bool) :
    Frame { w with flags := w.flags ++ [f] } s (t.setFlag f v) where
  regs r hr := by rw [← h.regs r hr]; cases f <;> rfl
  sp hsp := by rw [← h.sp hsp]; cases f <;> rfl
  flags g hg := by
    obtain ⟨hw, hf⟩ : g ∉ w.flags ∧ g ≠ f := by simpa using hg
    rw [State.setFlag_flag, if_neg hf, h.flags g hw]
  ime hime := by rw [← h.ime hime]; cases f <;> rfl
  eiPending hei := by rw [← h.eiPending hei]; cases f <;> rfl
  bytes harray a ha := by rw [← h.bytes harray a ha]; cases f <;> rfl
  config := by rw [← h.config]; cases f <;> rfl
  specified n := by
    cases f <;> cases n <;> simp [Machine.State.setFlag, h.specified, Writes.covers]

end

/-- The fetch of `n` bytes and no other call. Writes of registers and flags leave all four things a report is about. -/
theorem Report.fetched (n c : Nat) (s : State) : Report n c [] s ((s.fetched n).setCost c) := by
  constructor <;> simp

end Sys2Proof

namespace Sys2Proof.Machine

/-! ## Addition, subtraction, AND and OR -/

/-- ADD and ADC are one primitive; ADC alone has a carry in (R270). -/
theorem aluOp_of_add_or_adc {op : AluOp} (h : op = .add ∨ op = .adc) (a b : Byte) (c : Bool) :
    op ≠ .cp ∧ ∃ cin : Bool, aluOp op a b c = aluAdd a b cin ∧ cin.toNat = if op = .adc then c.toNat else 0 := by
  rcases h with rfl | rfl
  · exact ⟨nofun, false, rfl, rfl⟩
  · exact ⟨nofun, c, rfl, rfl⟩

/-- SUB and SBC are one primitive; SBC alone has a borrow in (R271). -/
theorem aluOp_of_sub_or_sbc {op : AluOp} (h : op = .sub ∨ op = .sbc) (a b : Byte) (c : Bool) :
    op ≠ .cp ∧ ∃ cin : Bool, aluOp op a b c = aluSub a b cin ∧ cin.toNat = if op = .sbc then c.toNat else 0 := by
  rcases h with rfl | rfl
  · exact ⟨nofun, false, rfl, rfl⟩
  · exact ⟨nofun, c, rfl, rfl⟩

/-- What an operation other than CP leaves: `opAlu_effect` where A is written. -/
theorem opAlu_effect_of_ne_cp {op : AluOp} (h : op ≠ .cp) (src : AluSrc) (s : State) {out : AluOut}
    (hout : aluOp op (s.reg .a) (s.source src) s.fC = out) :
    ∃ t, opAlu op src s = .next t ∧ t.reg .a = out.res ∧ t.fZ = out.z ∧ t.fN = out.n ∧ t.fH = out.h ∧ t.fC = out.c ∧
      t.pc = s.pc + BitVec.ofNat 16 src.bytes ∧ Report src.bytes src.cycles (src.reads s) s t ∧
      Frame { regs := [.a], flags := [.z, .n, .h, .c] } s t := by
  have effect := opAlu_effect op src s
  rwa [hout, if_neg h, if_neg h] at effect

/-- Settles O37: the outputs of `alu_add`. -/
theorem addAndAdc : Obligations.AddAndAdc := by
  intro i op src s hop hform a b cin
  rw [encode_of_form hform, exec_of_form hform]
  obtain ⟨writesA, c, hout, hc⟩ := aluOp_of_add_or_adc hop (s.reg .a) (s.source src) s.fC
  obtain ⟨t, ht, hres, hz, hn, hh, hcarry, rest⟩ := opAlu_effect_of_ne_cp writesA src s hout
  have hcin : cin = c.toNat := hc.symm
  rw [hcin]
  refine ⟨?_, t, ht, ?_, hz.trans (aluAdd_z _ _ _), hn, hh, hcarry, rest⟩
  · rcases hop with rfl | rfl <;> exact Form.encode_alu _ src
  · rw [hres, aluAdd_res]

/-- Settles O38: the outputs of `alu_sub`. -/
theorem subAndSbc : Obligations.SubAndSbc := by
  intro i op src s hop hform a b cin
  rw [encode_of_form hform, exec_of_form hform]
  obtain ⟨writesA, c, hout, hc⟩ := aluOp_of_sub_or_sbc hop (s.reg .a) (s.source src) s.fC
  obtain ⟨t, ht, hres, hz, hn, hh, hcarry, rest⟩ := opAlu_effect_of_ne_cp writesA src s hout
  have hcin : cin = c.toNat := hc.symm
  rw [hcin]
  refine ⟨?_, t, ht, ?_, hz.trans (aluSub_z _ _ _), hn, hh, hcarry, rest⟩
  · rcases hop with rfl | rfl <;> exact Form.encode_alu _ src
  · rw [hres, aluSub_res]

/-- Settles O39: the outputs of `alu_and` and `alu_or`. -/
theorem andAndOr : Obligations.AndAndOr := by
  intro i op src s hop hform res
  rw [encode_of_form hform, exec_of_form hform]
  rcases hop with rfl | rfl
  · exact ⟨Form.encode_alu .and src, opAlu_effect .and src s⟩
  · exact ⟨Form.encode_alu .or src, opAlu_effect .or src s⟩

/-! ## INC and DEC -/

/-- The coded operand read after a fetch of `n` bytes (R14). -/
theorem get8_fetched_fst (o : Operand8) (n : Nat) (s : State) : (get8 o (s.fetched n)).1 = s.operand n o := by
  cases o <;> simp [State.operand]

/-- (HL) read after a fetch of `n` bytes and then written: HL is the one of the state before (R14). -/
theorem set8_get8_atHL (n : Nat) (v : Byte) (s : State) :
    set8 .atHL v (get8 .atHL (s.fetched n)).2 =
      writeByte (s.pair .hl) v ((s.fetched n).record (.read (s.pair .hl))) := by
  simp

/-- What writing a coded operand leaves after a fetch of `n` bytes and its read. -/
theorem set8_get8_effect (n c : Nat) (o : Operand8) (v : Byte) (s : State) {u : State}
    (hu : set8 o v (get8 o (s.fetched n)).2 = u) :
    o.Holds v s u ∧ u.pc = s.pc + BitVec.ofNat 16 n ∧ Report n c (o.updates v s) s (u.setCost c) ∧
      Frame { regs := o.regs, bytes := o.bytes s } s u := by
  cases o with
  | reg r =>
    subst hu
    refine ⟨?holds, ?pc, ?report, (Frame.fetched n s).setReg r v⟩
    case holds => simp [Operand8.Holds]
    case pc => simp
    case report => constructor <;> simp [Operand8.updates]
  | atHL =>
    rw [set8_get8_atHL] at hu
    subst hu
    refine ⟨fun harray => ?holds, ?pc, ?report, ((Frame.fetched n s).record _).writeByte _ v⟩
    case holds =>
      have hm : s.config.memory = .array := by simpa using harray
      simp [hm]
    case pc => simp
    case report => constructor <;> simp +contextual [Operand8.updates]

theorem incCost_eq (o : Operand8) : incCost o = o.pick 1 3 := by
  cases o <;> rfl

/-- What INC and DEC leave, once their result is known: the operand and three flags written. -/
theorem update8_effect (o : Operand8) (res : Byte) (z n h : Bool) (s : State) :
    ∃ t, done (incCost o) ((set8 o res (get8 o (s.fetched 1)).2).setZNH z n h) = .next t ∧
      o.Holds res s t ∧ t.fZ = z ∧ t.fN = n ∧ t.fH = h ∧ t.pc = s.pc + 1 ∧
      Report 1 (o.pick 1 3) (o.updates res s) s t ∧
      Frame { regs := o.regs, flags := [.z, .n, .h], bytes := o.bytes s } s t := by
  generalize hu : set8 o res (get8 o (s.fetched 1)).2 = u
  obtain ⟨holds, hpc, report, frame⟩ := set8_get8_effect 1 (o.pick 1 3) o res s hu
  rw [incCost_eq]
  refine ⟨_, rfl, ?_, rfl, rfl, rfl, hpc, { report with }, ?_⟩
  · cases o <;> exact holds
  · exact ((frame.setFlag .z z).setFlag .n n).setFlag .h h |>.setCost _

/-- Settles O42: the update of `update8_effect` by one up and by one down. -/
theorem incrementAndDecrement : Obligations.IncrementAndDecrement := by
  refine ⟨fun i o s hform => ?inc, fun i o s hform => ?dec⟩
  all_goals rw [encode_of_form hform, exec_of_form hform, Form.run, Form.encode, opByte_eq]
  case inc =>
    rw [opInc8, get8_fetched_fst]
    exact ⟨rfl, update8_effect o _ _ _ _ s⟩
  case dec =>
    rw [opDec8, get8_fetched_fst]
    exact ⟨rfl, update8_effect o _ _ _ _ s⟩

/-! ## CPL, SCF and CCF -/

/-- What writing the carry leaves, as SCF and CCF do: fN and fH are cleared beside it (R298, R299). -/
theorem carryFlag_effect (v : Bool) (s : State) :
    ∃ t, done 1 ((((s.fetched 1).setN false).setH false).setC v) = .next t ∧ t.fN = false ∧ t.fH = false ∧ t.fC = v ∧
      t.pc = s.pc + 1 ∧ Report 1 1 [] s t ∧ Frame { flags := [.n, .h, .c] } s t := by
  refine ⟨_, rfl, rfl, rfl, rfl, s.fetched_pc 1, { Report.fetched 1 1 s with }, ?_⟩
  exact (((Frame.fetched 1 s).setFlag .n false).setFlag .h false).setFlag .c v |>.setCost 1

/-- Settles O45: CPL writes A and two flags; SCF and CCF are the write of `carryFlag_effect`. -/
theorem complementAndCarryFlag : Obligations.ComplementAndCarryFlag := by
  refine ⟨fun i s hform => ?cpl, fun i s hform => ?scf, fun i s hform => ?ccf⟩
  all_goals rw [encode_of_form hform, exec_of_form hform, Form.run]
  case cpl =>
    refine ⟨rfl, _, rfl, ?_, rfl, rfl, s.fetched_pc 1, { Report.fetched 1 1 s with }, ?_⟩
    · simp
    · exact (((Frame.fetched 1 s).setReg .a _).setFlag .n true).setFlag .h true |>.setCost 1
  case scf => exact ⟨rfl, carryFlag_effect true s⟩
  case ccf =>
    rw [opCcf, State.fetched_fC]
    exact ⟨rfl, carryFlag_effect (!s.fC) s⟩

/-! ## DAA -/

/-- What DAA leaves: A, fZ, fH and fC written (R296). -/
theorem opDaa_effect (s : State) {out : Byte × Bool} (hout : daaAdjust (s.reg .a) s.fN s.fH s.fC = out) :
    ∃ t, opDaa s = .next t ∧ t.reg .a = out.1 ∧ t.fZ = decide (out.1 = 0) ∧ t.fH = false ∧ t.fC = out.2 ∧
      t.pc = s.pc + 1 ∧ Report 1 1 [] s t ∧ Frame { regs := [.a], flags := [.z, .h, .c] } s t := by
  rw [opDaa, State.fetched_reg, State.fetched_fN, State.fetched_fH, State.fetched_fC, hout]
  refine ⟨_, rfl, ?_, rfl, rfl, rfl, s.fetched_pc 1, { Report.fetched 1 1 s with }, ?_⟩
  · simp
  · exact ((((Frame.fetched 1 s).setReg .a _).setFlag .z _).setFlag .h false).setFlag .c _ |>.setCost 1

/-- The unbounded integer that DAA narrows to A (R296). -/
def daaValue (a : Byte) (n h c : Bool) : Int :=
  if n then (a.toNat : Int) - (if c then 0x60 else 0) - (if h then 0x06 else 0)
  else (a.toNat : Int) + (if c || decide (a.toNat > 0x99) then 0x60 else 0) +
    (if h || decide (a.toNat % 16 > 0x9) then 0x06 else 0)

/-- DAA's result as a number. Adding 0x60 leaves the low nibble, so that of A itself decides the low adjustment. -/
theorem daaAdjust_fst (a : Byte) (n h c : Bool) : ((daaAdjust a n h c).1.toNat : Int) = daaValue a n h c % 256 := by
  cases n with
  | true =>
    simp only [daaAdjust, daaValue, if_true, BitVec.toNat_ofInt]
    cases h <;> cases c <;> simp <;> omega
  | false =>
    have low (big : Bool) : (if big then a.toNat + 0x60 else a.toNat) % 16 = a.toNat % 16 := by split <;> omega
    simp only [daaAdjust, daaValue, low, Bool.false_eq_true, if_false, BitVec.toNat_ofNat]
    split <;> split <;> simp

/-- DAA's carry: an addition can set it, a subtraction leaves it. -/
theorem daaAdjust_snd (a : Byte) (n h c : Bool) :
    (daaAdjust a n h c).2 = if n then c else c || decide (a.toNat > 0x99) := by
  cases n <;> rfl

/-- Settles O43: what DAA leaves, with its result as a number. -/
theorem decimalAdjustAlgorithm : Obligations.DecimalAdjustAlgorithm := by
  intro i s hform a high low r
  rw [encode_of_form hform, exec_of_form hform]
  obtain ⟨t, ht, hres, hz, hh, hc, rest⟩ := opDaa_effect s rfl
  have hr : ((daaAdjust (s.reg .a) s.fN s.fH s.fC).1.toNat : Int) = r % 256 := daaAdjust_fst _ _ _ _
  refine ⟨rfl, t, ht, ?_, ?_, hh, hc.trans (daaAdjust_snd _ _ _ _), rest⟩
  · rw [hres, hr]
  · rw [hz, ← hr]
    simp [← BitVec.toNat_inj]

/-! ## Decimal arithmetic -/

/-- Two digits and the carry into them add up to a digit and the carry out. -/
theorem digit_add {x y c : Nat} (hx : x ≤ 9) (hy : y ≤ 9) (hc : c ≤ 1) :
    ∃ d k, d ≤ 9 ∧ (k = 0 ∨ k = 1) ∧ x + y + c = d + 10 * k := by
  by_cases hcarry : x + y + c ≤ 9
  · exact ⟨x + y + c, 0, hcarry, .inl rfl, rfl⟩
  · exact ⟨x + y + c - 10, 1, by omega, .inr rfl, by omega⟩

/-- A digit less another and the borrow from it is a digit, less ten where the next one lends. -/
theorem digit_sub {x y c : Nat} (hx : x ≤ 9) (hy : y ≤ 9) (hc : c ≤ 1) :
    ∃ d k, d ≤ 9 ∧ (k = 0 ∨ k = 1) ∧ x + 10 * k = d + y + c := by
  by_cases hborrow : y + c ≤ x
  · exact ⟨x - y - c, 0, by omega, .inl rfl, by omega⟩
  · exact ⟨x + 10 - y - c, 1, by omega, .inr rfl, by omega⟩

/-- Where the nibbles of DAA's result are two digits, it is decimal and writes their number. -/
theorem decimal_daaAdjust {a : Byte} {n h c : Bool} {d1 d0 : Nat} (h1 : d1 ≤ 9) (h0 : d0 ≤ 9)
    (hvalue : daaValue a n h c % 256 = 16 * d1 + d0) :
    isDecimal (daaAdjust a n h c).1 ∧ decimal (daaAdjust a n h c).1 = 10 * d1 + d0 := by
  have hres := daaAdjust_fst a n h c
  unfold isDecimal decimal
  omega

section
variable {raw m k d1 d0 : Nat} (hk : k = 0 ∨ k = 1) (h0 : d0 ≤ 9) (hraw : raw + 6 * k = 160 * m + 16 * d1 + d0)

/-! `raw` is the binary sum of two decimal bytes, `m`, `d1` and `d0` are the digits of their decimal sum, and `k` is the carry
out of the low digit. A nibble counts to sixteen where a digit counts to ten, so `raw` lacks 6 for `k` and 96 for `m`. -/

include hk h0 hraw

/-- The low nibble is adjusted exactly where the low digit carried: it carried out too, or shows no digit. -/
theorem low_adjust_iff : d0 + 10 * k > 0xF ∨ raw % 256 % 16 > 0x9 ↔ k = 1 := by
  rcases hk with rfl | rfl <;> omega

/-- The high nibble is adjusted exactly where the high digit carried. -/
theorem high_adjust_iff (hm : m = 0 ∨ m = 1) (h1 : d1 ≤ 9) : raw > 0xFF ∨ raw % 256 > 0x99 ↔ m = 1 := by
  rcases hm with rfl | rfl <;> omega

end

/-- DAA after ADD or ADC: 6 makes up for a carry from the low digit, and 96 for one from the high digit. -/
theorem daaAdjust_aluAdd {a b : Byte} (ha : isDecimal a) (hb : isDecimal b) {cin : Bool} {out : AluOut}
    (hout : aluAdd a b cin = out) {sum : Nat} (hsum : sum = decimal a + decimal b + cin.toNat) :
    isDecimal (daaAdjust out.res out.n out.h out.c).1 ∧ decimal (daaAdjust out.res out.n out.h out.c).1 = sum % 100 ∧
      (daaAdjust out.res out.n out.h out.c).2 = decide (sum > 99) := by
  obtain ⟨ha1, ha0⟩ := ha
  obtain ⟨hb1, hb0⟩ := hb
  obtain ⟨d0, k, h0, hk, hlow⟩ := digit_add ha0 hb0 cin.toNat_le
  obtain ⟨d1, m, h1, hm, hhigh⟩ := digit_add ha1 hb1 (show k ≤ 1 by omega)
  have hdigits : sum = 100 * m + (10 * d1 + d0) := by unfold decimal at hsum; omega
  have hraw : a.toNat + b.toNat + cin.toNat + 6 * k = 160 * m + 16 * d1 + d0 := by omega
  have hres : out.res.toNat = (a.toNat + b.toNat + cin.toNat) % 256 := hout ▸ aluAdd_res a b cin
  have hn : out.n = false := hout ▸ rfl
  have adjustHigh : (out.c || decide (out.res.toNat > 0x99)) = decide (m = 1) := by
    rw [hres, ← hout, aluAdd, ← Bool.decide_or, decide_eq_decide]
    exact high_adjust_iff hk h0 hraw hm h1
  have adjustLow : (out.h || decide (out.res.toNat % 16 > 0x9)) = decide (k = 1) := by
    rw [hres, ← hout, aluAdd, ← Bool.decide_or, decide_eq_decide, lo4, lo4, hlow]
    exact low_adjust_iff hk h0 hraw
  have hvalue : daaValue out.res out.n out.h out.c % 256 = 16 * d1 + d0 := by
    rw [hn, daaValue, adjustHigh, adjustLow, hres]
    rcases hk with rfl | rfl <;> rcases hm with rfl | rfl <;> simp <;> omega
  obtain ⟨isDec, hdec⟩ := decimal_daaAdjust h1 h0 hvalue
  refine ⟨isDec, by omega, ?_⟩
  rw [daaAdjust_snd, hn, adjustHigh]
  exact decide_eq_decide.mpr (by omega)

/-- DAA after SUB or SBC: 6 is taken back for a borrow by the low digit, and 96 for one by the high digit. -/
theorem daaAdjust_aluSub {a b : Byte} (ha : isDecimal a) (hb : isDecimal b) {cin : Bool} {out : AluOut}
    (hout : aluSub a b cin = out) {diff : Int} (hdiff : diff = (decimal a : Int) - decimal b - cin.toNat) :
    isDecimal (daaAdjust out.res out.n out.h out.c).1 ∧
      (decimal (daaAdjust out.res out.n out.h out.c).1 : Int) = diff % 100 ∧
      (daaAdjust out.res out.n out.h out.c).2 = decide (diff < 0) := by
  obtain ⟨ha1, ha0⟩ := ha
  obtain ⟨hb1, hb0⟩ := hb
  obtain ⟨d0, k, h0, hk, hlow⟩ := digit_sub ha0 hb0 cin.toNat_le
  obtain ⟨d1, m, h1, hm, hhigh⟩ := digit_sub ha1 hb1 (show k ≤ 1 by omega)
  have hdigits : diff + 100 * m = 10 * d1 + d0 := by unfold decimal at hdiff; omega
  have hraw : (a.toNat : Int) - b.toNat - cin.toNat + 160 * m = 16 * d1 + d0 + 6 * k := by omega
  have hres : (out.res.toNat : Int) = ((a.toNat : Int) - b.toNat - cin.toNat) % 256 := hout ▸ aluSub_res a b cin
  have hn : out.n = true := hout ▸ rfl
  have borrowHigh : out.c = decide (m = 1) := by
    rw [← hout, aluSub, decide_eq_decide]
    omega
  have borrowLow : out.h = decide (k = 1) := by
    rw [← hout, aluSub, decide_eq_decide, lo4, lo4]
    omega
  have hvalue : daaValue out.res out.n out.h out.c % 256 = 16 * d1 + d0 := by
    rw [hn, daaValue, borrowHigh, borrowLow, hres]
    rcases hk with rfl | rfl <;> rcases hm with rfl | rfl <;> simp <;> omega
  obtain ⟨isDec, hdec⟩ := decimal_daaAdjust h1 h0 hvalue
  refine ⟨isDec, by omega, ?_⟩
  rw [daaAdjust_snd, hn, borrowHigh]
  exact decide_eq_decide.mpr (by omega)

/-- An ALU instruction other than CP and then DAA: DAA adjusts the result by the flags the operation left. -/
theorem alu_daa_effect {i j : Instr} {op : AluOp} {src : AluSrc} (hi : i.form = .alu op src) (hj : j.form = .daa)
    (writesA : op ≠ .cp) {s : State} {out : AluOut} (hout : aluOp op (s.reg .a) (s.source src) s.fC = out) :
    ∃ t u, exec i s = .next t ∧ exec j t = .next u ∧ u.reg .a = (daaAdjust out.res out.n out.h out.c).1 ∧
      u.fC = (daaAdjust out.res out.n out.h out.c).2 := by
  obtain ⟨t, ht, hres, -, hn, hh, hc, -⟩ := opAlu_effect_of_ne_cp writesA src s hout
  obtain ⟨u, hu, ha, -, -, hcarry, -⟩ := opDaa_effect t rfl
  rw [hres, hn, hh, hc] at ha hcarry
  exact ⟨t, u, (exec_of_form hi s).trans ht, (exec_of_form hj t).trans hu, ha, hcarry⟩

/-- Settles O44: DAA on the outputs of `alu_add` and of `alu_sub`. -/
theorem decimalArithmetic : Obligations.DecimalArithmetic := by
  refine ⟨fun i j op src s hop hi hj ha hb => ?add, fun i j op src s hop hi hj ha hb => ?sub⟩
  case add =>
    obtain ⟨writesA, cin, hout, hcin⟩ := aluOp_of_add_or_adc hop (s.reg .a) (s.source src) s.fC
    obtain ⟨t, u, ht, hu, hres, hcarry⟩ := alu_daa_effect hi hj writesA hout
    refine ⟨t, u, ht, hu, ?_⟩
    rw [hres, hcarry, ← hcin]
    exact daaAdjust_aluAdd ha hb rfl rfl
  case sub =>
    obtain ⟨writesA, cin, hout, hcin⟩ := aluOp_of_sub_or_sbc hop (s.reg .a) (s.source src) s.fC
    obtain ⟨t, u, ht, hu, hres, hcarry⟩ := alu_daa_effect hi hj writesA hout
    refine ⟨t, u, ht, hu, ?_⟩
    rw [hres, hcarry, ← hcin]
    exact daaAdjust_aluSub ha hb rfl rfl

end Sys2Proof.Machine
end

section
/-!
PROOFS. The statements of 44_rotate_shift_bit.md. Each operation reads its operand and then writes a byte, or flags alone: what
the read and the write leave is said once for every operand. A rotate or shift ORs bytes that have no bit in common, so its
result is their sum; the bit operations are said bit by bit.
-/

namespace Sys2Proof

open Sys2Proof.Machine

/-! ## Flags written one after the other -/

theorem Machine.State.setFlags_eq_setFlag (s : State) (z n h c : Bool) :
    s.setFlags z n h c = (((s.setFlag .z z).setFlag .n n).setFlag .h h).setFlag .c c := rfl

theorem Machine.State.setZNH_eq_setFlag (s : State) (z n h : Bool) :
    s.setZNH z n h = ((s.setFlag .z z).setFlag .n n).setFlag .h h := rfl

@[simp] theorem Machine.State.setFlag_pc (s : State) (f : Flag) (v : Bool) : (s.setFlag f v).pc = s.pc := by
  cases f <;> rfl

/-- A flag written before the step ends changes nothing that a report is about. -/
theorem Report.setFlag {n k : Nat} {data : List Access} {s t : State} (report : Report n k data s (t.setCost k))
    (f : Flag) (v : Bool) : Report n k data s ((t.setFlag f v).setCost k) := by
  cases f <;> exact { report with }

/-- A flag written changes no operand. -/
theorem Operand8.Holds.setFlag {o : Operand8} {x : Byte} {s t : State} (holds : o.Holds x s t) (f : Flag) (v : Bool) :
    o.Holds x s (t.setFlag f v) := by
  cases f <;> cases o <;> exact holds

/-- The cost of a step is no part of an operand. -/
theorem Operand8.Holds.setCost {o : Operand8} {x : Byte} {s t : State} (holds : o.Holds x s t) (k : Nat) :
    o.Holds x s (t.setCost k) := by
  cases o <;> exact holds

end Sys2Proof

namespace Sys2Proof.Machine

/-! ## Rotates and shifts as numbers -/

/-- Two bytes without a common bit, the one a multiple of `2 ^ i` and the other below it: their OR is their sum. -/
theorem toNat_or_of_lt {hi lo : Byte} (i : Nat) {a : Nat} (hhi : hi.toNat = 2 ^ i * a) (hlo : lo.toNat < 2 ^ i) :
    (hi ||| lo).toNat = hi.toNat + lo.toNat := by
  rw [BitVec.toNat_or, hhi, Nat.two_pow_add_eq_or_of_lt hlo]

theorem toNat_shiftLeft_one (v : Byte) : (v <<< 1).toNat = 2 * v.toNat % 256 := by
  rw [BitVec.toNat_shiftLeft, Nat.shiftLeft_eq, Nat.mul_comm]

theorem toNat_shiftRight_one (v : Byte) : (v >>> 1).toNat = v.toNat / 2 :=
  v.toNat_ushiftRight 1

/-- A shift to the left with a bit put in at the bottom. -/
theorem toNat_shiftLeft_or (v : Byte) (c : Bool) :
    ((v <<< 1) ||| (if c then 0x01 else 0)).toNat = (2 * v.toNat + c.toNat) % 256 := by
  have hbit : (if c then 0x01 else 0 : Byte).toNat = c.toNat := by cases c <;> rfl
  have hc : c.toNat ≤ 1 := c.toNat_le
  have hshift : (v <<< 1).toNat = 2 * v.toNat % 256 := toNat_shiftLeft_one v
  rw [toNat_or_of_lt 1 (a := v.toNat % 128) (by omega) (by omega)]
  omega

/-- A shift to the right with a bit put in at the top. -/
theorem toNat_shiftRight_or (v : Byte) (c : Bool) :
    ((v >>> 1) ||| (if c then 0x80 else 0)).toNat = v.toNat / 2 + 128 * c.toNat := by
  have hbit : (if c then 0x80 else 0 : Byte).toNat = 2 ^ 7 * c.toNat := by cases c <;> rfl
  have hshift : (v >>> 1).toNat = v.toNat / 2 := toNat_shiftRight_one v
  rw [BitVec.or_comm, toNat_or_of_lt 7 hbit (by omega), hshift]
  omega

theorem toNat_getLsbD_seven (v : Byte) : (v.getLsbD 7).toNat = v.toNat / 128 := by
  have hbit : (v.getLsbD 7).toNat = v.toNat / 128 % 2 := Nat.toNat_testBit v.toNat 7
  omega

theorem toNat_getLsbD_zero (v : Byte) : (v.getLsbD 0).toNat = v.toNat % 2 :=
  (Nat.toNat_testBit v.toNat 0).trans (by rw [Nat.pow_zero, Nat.div_one])

/-- The two nibbles exchanged. -/
theorem swap_toNat (v : Byte) : (swap v).1.toNat = 16 * (v.toNat % 16) + v.toNat / 16 := by
  have hhigh : (v <<< 4).toNat = 2 ^ 4 * (v.toNat % 16) := by
    rw [BitVec.toNat_shiftLeft, Nat.shiftLeft_eq]
    omega
  have hlow : (v >>> 4).toNat = v.toNat / 16 := by rw [BitVec.toNat_ushiftRight, Nat.shiftRight_eq_div_pow]
  rw [swap, toNat_or_of_lt 4 hhigh (by omega)]
  omega

/-- The result of R320 as a number. -/
theorem cbRotOp_fst_toNat (k : CbRot) (v : Byte) (c : Bool) :
    (cbRotOp k v c).1.toNat = k.value v.toNat c.toNat := by
  cases k with
  | rlc => exact (toNat_shiftLeft_or v _).trans (by rw [toNat_getLsbD_seven]; rfl)
  | rrc => exact (toNat_shiftRight_or v _).trans (by rw [toNat_getLsbD_zero]; rfl)
  | rl => exact toNat_shiftLeft_or v c
  | rr => exact toNat_shiftRight_or v c
  | sla => exact toNat_shiftLeft_one v
  | sra =>
    have hbit : v &&& 0x80 = if v.getLsbD 7 then 0x80 else 0 := v.and_twoPow 7
    rw [cbRotOp, sra, hbit, toNat_shiftRight_or, toNat_getLsbD_seven]
    rfl
  | swap => exact swap_toNat v
  | srl => exact toNat_shiftRight_one v

/-- The bit shifted out of R320. -/
theorem cbRotOp_snd (k : CbRot) (v : Byte) (c : Bool) : (cbRotOp k v c).2 = k.out v := by
  cases k <;> rfl

/-- The result of R320 is the byte of its number. -/
theorem cbRotOp_fst (k : CbRot) (v : Byte) (c : Bool) :
    (cbRotOp k v c).1 = BitVec.ofNat 8 (k.value v.toNat c.toNat) := by
  rw [← cbRotOp_fst_toNat, BitVec.ofNat_toNat, BitVec.setWidth_eq]

/-- An accumulator rotate computes what its CB operation does (R321 to R324). -/
theorem accRotOp_eq (k : AccRot) (v : Byte) (c : Bool) : accRotOp k v c = cbRotOp k.cb v c := by
  cases k <;> rfl

/-! ## The accumulator rotates -/

/-- What RLCA, RRCA, RLA and RRA leave (R321 to R324). -/
theorem opAccRot_effect (k : AccRot) (s : State) :
    ∃ t, opAccRot k s = .next t ∧ t.reg .a = (cbRotOp k.cb (s.reg .a) s.fC).1 ∧
      t.fC = (cbRotOp k.cb (s.reg .a) s.fC).2 ∧ t.fZ = false ∧ t.fN = false ∧ t.fH = false ∧ t.pc = s.pc + 1 ∧
      Report 1 1 [] s t ∧ Frame { regs := [.a], flags := [.z, .n, .h, .c] } s t := by
  rw [opAccRot, State.fetched_reg, State.fetched_fC, accRotOp_eq, State.setFlags_eq_setFlag]
  refine ⟨_, rfl, ?res, rfl, rfl, rfl, rfl, ?pc, ?report, ?frame⟩
  case res => simp [State.setFlag]
  case pc => simp
  case report => exact { Report.fetched 1 1 s with }
  case frame =>
    exact (((((Frame.fetched 1 s).setReg .a _).setFlag .z _).setFlag .n _).setFlag .h _).setFlag .c _ |>.setCost 1

/-- Settles O46: the effect of the rotate, with its result as a number. -/
theorem accumulatorRotates : Obligations.AccumulatorRotates := by
  intro i k s hform
  rw [encode_of_form hform, exec_of_form hform]
  obtain ⟨t, ht, hres, hcarry, rest⟩ := opAccRot_effect k s
  refine ⟨by cases k <;> rfl, t, ht, ?_, hcarry.trans (cbRotOp_snd _ _ _), rest⟩
  rw [hres, cbRotOp_fst_toNat]

/-! ## The coded operand of a CB operation -/

/-- What reading a coded operand leaves after a fetch of `n` bytes (R14). -/
theorem get8_effect (n c : Nat) (o : Operand8) (s : State) {u : State} (hu : (get8 o (s.fetched n)).2 = u) :
    u.pc = s.pc + BitVec.ofNat 16 n ∧ Report n c (o.reads s) s (u.setCost c) ∧ Frame {} s u := by
  subst hu
  cases o with
  | reg r => exact ⟨s.fetched_pc n, Report.fetched n c s, Frame.fetched n s⟩
  | atHL =>
    refine ⟨s.fetched_pc n, ?report, (Frame.fetched n s).record _⟩
    constructor <;> simp [Operand8.reads]

theorem cbCost_eq (o : Operand8) : cbCost o = o.pick 2 4 := by
  cases o <;> rfl

theorem bitCost_eq (o : Operand8) : bitCost o = o.pick 2 3 := by
  cases o <;> rfl

/-- What a CB operation that writes its operand and no flag leaves (R334, R335). -/
theorem cbWrite_effect (o : Operand8) (res : Byte) (s : State) :
    ∃ t, done (cbCost o) (set8 o res (get8 o (s.fetched 2)).2) = .next t ∧ o.Holds res s t ∧ t.pc = s.pc + 2 ∧
      Report 2 (o.pick 2 4) (o.updates res s) s t ∧ Frame { regs := o.regs, bytes := o.bytes s } s t := by
  generalize hu : set8 o res (get8 o (s.fetched 2)).2 = u
  obtain ⟨holds, hpc, report, frame⟩ := set8_get8_effect 2 (o.pick 2 4) o res s hu
  rw [cbCost_eq]
  exact ⟨_, rfl, holds.setCost _, hpc, report, frame.setCost _⟩

/-- What a CB operation that writes its operand and then the four flags leaves (R325 to R332). -/
theorem cbWriteFlags_effect (o : Operand8) (res : Byte) (z n h c : Bool) (s : State) :
    ∃ t, done (cbCost o) ((set8 o res (get8 o (s.fetched 2)).2).setFlags z n h c) = .next t ∧ o.Holds res s t ∧
      t.fZ = z ∧ t.fN = n ∧ t.fH = h ∧ t.fC = c ∧ t.pc = s.pc + 2 ∧ Report 2 (o.pick 2 4) (o.updates res s) s t ∧
      Frame { regs := o.regs, flags := [.z, .n, .h, .c], bytes := o.bytes s } s t := by
  generalize hu : set8 o res (get8 o (s.fetched 2)).2 = u
  obtain ⟨holds, hpc, report, frame⟩ := set8_get8_effect 2 (o.pick 2 4) o res s hu
  rw [cbCost_eq, State.setFlags_eq_setFlag]
  refine ⟨_, rfl, ?holds, rfl, rfl, rfl, rfl, ?pc, ?report, ?frame⟩
  case holds => exact ((((holds.setFlag .z z).setFlag .n n).setFlag .h h).setFlag .c c).setCost _
  case pc => simpa using hpc
  case report => exact (((report.setFlag .z z).setFlag .n n).setFlag .h h).setFlag .c c
  case frame => exact ((((frame.setFlag .z z).setFlag .n n).setFlag .h h).setFlag .c c).setCost _

/-! ## The CB rotates, shifts and SWAP -/

/-- The template of R325 to R332 on the operand and the carry of the state before. -/
theorem opCbRot_eq (k : CbRot) (o : Operand8) (s : State) {out : Byte × Bool}
    (hout : cbRotOp k (s.operand 2 o) s.fC = out) :
    opCbRot k o s = done (cbCost o)
      ((set8 o out.1 (get8 o (s.fetched 2)).2).setFlags (decide (out.1 = 0)) false false out.2) := by
  obtain ⟨-, -, frame⟩ := get8_effect 2 0 o s rfl
  have hcarry : (get8 o (s.fetched 2)).2.fC = s.fC := frame.flags .c List.not_mem_nil
  rw [opCbRot, get8_fetched_fst, hcarry, hout]

/-- Settles O47: the template writes the operand and the flags, with the result as a number. -/
theorem cbRotatesAndShifts : Obligations.CbRotatesAndShifts := by
  intro i k o s hform v res
  have hres : (cbRotOp k v s.fC).1 = res := cbRotOp_fst k v s.fC
  rw [encode_of_form hform, exec_of_form hform, Form.run, opCbRot_eq k o s rfl, Form.encode, opByte, hres, cbRotOp_snd,
    ← cbRotOp_fst_toNat, hres]
  obtain ⟨t, ht, rest⟩ := cbWriteFlags_effect o res (decide (res = 0)) false false (k.out v) s
  exact ⟨by rw [Nat.mul_zero, Nat.zero_add], t, ht, rfl, rest⟩

/-! ## BIT, RES and SET -/

/-- Settles O48: after the read (`get8_effect`) only flags are written. -/
theorem bitTest : Obligations.BitTest := by
  intro i b o s hform
  rw [encode_of_form hform, exec_of_form hform, Form.run, opBit, get8_fetched_fst, bitCost_eq, State.setZNH_eq_setFlag,
    Form.encode, opByte]
  generalize hu : (get8 o (s.fetched 2)).2 = u
  obtain ⟨hpc, report, frame⟩ := get8_effect 2 (o.pick 2 3) o s hu
  refine ⟨rfl, _, rfl, rfl, rfl, rfl, ?pc, ?report, ?frame⟩
  case pc => simpa using hpc
  case report => exact ((report.setFlag .z _).setFlag .n _).setFlag .h _
  case frame => exact (((frame.setFlag .z _).setFlag .n _).setFlag .h _).setCost _

/-- The mask of R334 and R335 is the power of two with bit `b` alone. -/
theorem one_shiftLeft_getLsbD (b : Fin 8) {k : Nat} : ((1 : Byte) <<< b.val).getLsbD k = decide (k = b.val) := by
  have htwoPow : ((1 : Byte) <<< b.val).getLsbD k = (decide (b.val < 8) && decide (b.val = k)) :=
    BitVec.getLsbD_twoPow b.val k
  rw [htwoPow, decide_eq_true b.isLt, Bool.true_and, decide_eq_decide]
  exact eq_comm

/-- RES clears bit `b` and leaves the others (R334). -/
theorem clearBit_getLsbD (b : Fin 8) (v : Byte) {k : Nat} (hk : k < 8) :
    (clearBit b v).getLsbD k = if k = b.val then false else v.getLsbD k := by
  have hmask : (0xFF ^^^ ((1 : Byte) <<< b.val)) = ~~~((1 : Byte) <<< b.val) := BitVec.allOnes_xor
  rw [clearBit, hmask, BitVec.getLsbD_and, BitVec.getLsbD_not, one_shiftLeft_getLsbD, decide_eq_true hk]
  by_cases hb : k = b.val <;> simp [hb]

/-- SET raises bit `b` and leaves the others (R335). -/
theorem raiseBit_getLsbD (b : Fin 8) (v : Byte) (k : Nat) :
    (raiseBit b v).getLsbD k = if k = b.val then true else v.getLsbD k := by
  rw [raiseBit, BitVec.getLsbD_or, one_shiftLeft_getLsbD]
  by_cases hb : k = b.val <;> simp [hb]

/-- RES and SET write their operand, with bit `b` taking the value and the others staying (R334, R335). -/
theorem run_resOrSet (b : Fin 8) (o : Operand8) (value : Bool) (s : State) :
    ∃ res, Form.run (if value then .set b o else .res b o) s =
        done (cbCost o) (set8 o res (get8 o (s.fetched 2)).2) ∧
      ∀ k, k < 8 → res.getLsbD k = if k = b.val then value else (s.operand 2 o).getLsbD k := by
  rw [← get8_fetched_fst]
  cases value with
  | false => exact ⟨_, rfl, fun _ hk => clearBit_getLsbD b _ hk⟩
  | true => exact ⟨_, rfl, fun k _ => raiseBit_getLsbD b _ k⟩

/-- Settles O49: the operand is written (`cbWrite_effect`) with the byte of `run_resOrSet`. -/
theorem resetAndSetBit : Obligations.ResetAndSetBit := by
  intro i b o value s hform
  rw [encode_of_form hform, exec_of_form hform]
  obtain ⟨res, hrun, hbits⟩ := run_resOrSet b o value s
  obtain ⟨t, ht, holds, rest⟩ := cbWrite_effect o res s
  exact ⟨by cases value <;> rfl, t, res, hrun.trans ht, holds, hbits, rest⟩

end Sys2Proof.Machine
end

section
/-!
PROOFS. The statements of 45_load_store.md. Every load and store of a byte is one of three actions after its fetch: a
register written, a byte read into a register, or a byte written. PUSH is the push of a call without its jump; POP writes
the word of a return to a pair. The round trips put the effect of a push and the effect of a pop together: with the
array, what is popped is what was pushed.
-/

namespace Sys2Proof

open Sys2Proof.Machine

/-! ## Frames and reports, for the writes of a pair -/

section
variable {w : Writes} {s t : State}

theorem Frame.setPair (h : Frame w s t) (p : Pair) (v : Word) :
    Frame { w with regs := w.regs ++ [Pair.hiReg p, Pair.loReg p] } s (t.setPair p v) := by
  have frame := (h.setReg (Pair.hiReg p) (hi8 v)).setReg (Pair.loReg p) (lo8 v)
  rwa [List.append_assoc] at frame

theorem Frame.setRp2 (h : Frame w s t) (rp : Rp2) (v : Word) :
    Frame { w with regs := w.regs ++ rp.regs, flags := w.flags ++ rp.flags } s (t.setRp2 rp v) := by
  cases rp with
  | pair p =>
    rw [Rp2.flags, List.append_nil]
    exact h.setPair p v
  | af =>
    have frame := ((((h.setReg .a (hi8 v)).setFlag .z ((lo8 v).getLsbD 7)).setFlag .n ((lo8 v).getLsbD 6)).setFlag .h
      ((lo8 v).getLsbD 5)).setFlag .c ((lo8 v).getLsbD 4)
    simp only [List.append_assoc] at frame
    exact frame

/-- A register written before the step ends changes nothing that a report is about. -/
theorem Report.setReg {n k : Nat} {data : List Access} (report : Report n k data s (t.setCost k)) (r : Reg8)
    (v : Byte) : Report n k data s ((t.setReg r v).setCost k) := by
  cases r <;> exact { report with }

theorem Report.setPair {n k : Nat} {data : List Access} (report : Report n k data s (t.setCost k)) (p : Pair)
    (v : Word) : Report n k data s ((t.setPair p v).setCost k) :=
  (report.setReg _ _).setReg _ _

theorem Report.setRp2 {n k : Nat} {data : List Access} (report : Report n k data s (t.setCost k)) (rp : Rp2)
    (v : Word) : Report n k data s ((t.setRp2 rp v).setCost k) := by
  cases rp with
  | pair p => exact report.setPair p v
  | af => exact { report.setReg .a (hi8 v) with }

end

end Sys2Proof

namespace Sys2Proof.Machine

/-! ## Pairs written and read back -/

theorem State.setPair_hiReg (s : State) (p : Pair) (v : Word) : (s.setPair p v).reg (Pair.hiReg p) = hi8 v := by
  simp

theorem State.setPair_loReg (s : State) (p : Pair) (v : Word) : (s.setPair p v).reg (Pair.loReg p) = lo8 v := by
  simp

theorem State.setPair_pair (s : State) (p : Pair) (v : Word) : (s.setPair p v).pair p = v := by
  rw [State.pair_eq, State.setPair_hiReg, State.setPair_loReg, wordOf_halves]

/-! ## The three actions of a load or store -/

/-- What a register written after a fetch of `n` bytes leaves. -/
theorem setReg_effect (n c : Nat) (r : Reg8) (v : Byte) (s : State) :
    ∃ t, done c ((s.fetched n).setReg r v) = .next t ∧ t.reg r = v ∧ t.pc = s.pc + BitVec.ofNat 16 n ∧
      Report n c [] s t ∧ Frame { regs := [r] } s t := by
  obtain ⟨holds, hpc, report, frame⟩ := set8_get8_effect n c (.reg r) v s rfl
  exact ⟨_, rfl, holds.setCost c, hpc, report, frame.setCost c⟩

/-- What a byte read into a register after a fetch of `n` bytes leaves, before the step ends. -/
theorem loadByte_effect (n c : Nat) (r : Reg8) (a : Word) (s : State) {u : State}
    (hu : (readByte a (s.fetched n)).2.setReg r (readByte a (s.fetched n)).1 = u) :
    u.reg r = s.data n a ∧ u.pc = s.pc + BitVec.ofNat 16 n ∧ Report n c [.read a] s (u.setCost c) ∧
      Frame { regs := [r] } s u := by
  subst hu
  refine ⟨by simp, by simp, Report.setReg ?report r _, ((Frame.fetched n s).record _).setReg r _⟩
  case report => constructor <;> simp

/-- What a load into a register leaves. -/
theorem load_effect (n c : Nat) (r : Reg8) (a : Word) (s : State) :
    ∃ t, done c ((readByte a (s.fetched n)).2.setReg r (readByte a (s.fetched n)).1) = .next t ∧
      t.reg r = s.data n a ∧ t.pc = s.pc + BitVec.ofNat 16 n ∧ Report n c [.read a] s t ∧
      Frame { regs := [r] } s t := by
  obtain ⟨hr, hpc, report, frame⟩ := loadByte_effect n c r a s rfl
  exact ⟨_, rfl, (State.setCost_reg _ _ _).trans hr, hpc, report, frame.setCost c⟩

/-- What a byte written after a fetch of `n` bytes leaves, before the step ends. -/
theorem storeByte_effect (n c : Nat) (a : Word) (v : Byte) (s : State) {u : State}
    (hu : writeByte a v (s.fetched n) = u) :
    u.stores a v ∧ u.pc = s.pc + BitVec.ofNat 16 n ∧ Report n c [.write a v] s (u.setCost c) ∧
      Frame { bytes := [a] } s u := by
  subst hu
  refine ⟨?stores, by simp, ?report, (Frame.fetched n s).writeByte a v⟩
  case stores => simp +contextual
  case report => constructor <;> simp +contextual

/-- What a store of a byte leaves. -/
theorem store_effect (n c : Nat) (a : Word) (v : Byte) (s : State) :
    ∃ t, done c (writeByte a v (s.fetched n)) = .next t ∧ t.stores a v ∧ t.pc = s.pc + BitVec.ofNat 16 n ∧
      Report n c [.write a v] s t ∧ Frame { bytes := [a] } s t := by
  obtain ⟨hstores, hpc, report, frame⟩ := storeByte_effect n c a v s rfl
  exact ⟨_, rfl, hstores, hpc, report, frame.setCost c⟩

theorem fetched_pair (n : Nat) (s : State) (p : Pair) : (s.fetched n).pair p = s.pair p := by
  simp

theorem fetched_hl (n : Nat) (s : State) : (s.fetched n).hl = s.pair .hl :=
  fetched_pair n s .hl

/-! ## 8-bit loads and stores -/

/-- Settles O26: the source is read after the fetch, and the destination is the one register written. -/
theorem ldRegReg : Obligations.LdRegReg := by
  intro i dst src s hform
  rw [encode_of_form hform, exec_of_form hform, Form.run, opLdRegReg, State.fetched_reg]
  exact ⟨rfl, setReg_effect 1 1 dst (s.reg src) s⟩

/-- Settles O27: a load and a store at the HL of the state before. -/
theorem ldThroughHl : Obligations.LdThroughHl := by
  refine ⟨fun i dst s hform => ?load, fun i src s hform => ?store⟩
  all_goals rw [encode_of_form hform, exec_of_form hform, Form.run, Form.encode]
  case load =>
    rw [opLdRegHl, fetched_hl, opByte_eq]
    exact ⟨rfl, load_effect 1 2 dst (s.pair .hl) s⟩
  case store =>
    rw [opLdHlReg, fetched_hl, State.fetched_reg]
    exact ⟨rfl, store_effect 1 2 (s.pair .hl) (s.reg src) s⟩

/-- Settles O28: n is the instruction's own, whatever HL addresses. -/
theorem ldImmediate : Obligations.LdImmediate := by
  refine ⟨fun i dst n s hform => ?reg, fun i n s hform => ?store⟩
  all_goals rw [encode_of_form hform, exec_of_form hform, Form.run, Form.encode]
  case reg =>
    rw [opByte_eq]
    exact ⟨rfl, setReg_effect 2 2 dst n s⟩
  case store =>
    rw [opLdHlN, fetched_hl]
    exact ⟨rfl, store_effect 2 3 (s.pair .hl) n s⟩

/-- Settles O29: each is a load of A from its address. -/
theorem accumulatorLoads : Obligations.AccumulatorLoads := by
  refine ⟨fun i s hform => ?bc, fun i s hform => ?de, fun i nn s hform => ?nn, fun i n s hform => ?high,
    fun i s hform => ?c⟩
  all_goals rw [encode_of_form hform, exec_of_form hform, Form.run, Form.encode]
  case bc =>
    rw [opLdAInd, fetched_pair]
    exact ⟨rfl, load_effect 1 2 .a (s.pair .bc) s⟩
  case de =>
    rw [opLdAInd, fetched_pair]
    exact ⟨rfl, load_effect 1 2 .a (s.pair .de) s⟩
  case nn => exact ⟨rfl, load_effect 3 4 .a nn s⟩
  case high =>
    rw [opLdhAN, highPage_eq]
    exact ⟨rfl, load_effect 2 3 .a (wordOf 0xFF n) s⟩
  case c =>
    rw [opLdAC, State.fetched_reg, highPage_eq]
    exact ⟨rfl, load_effect 1 2 .a (wordOf 0xFF (s.reg .c)) s⟩

/-- Settles O30: each is a store of A at its address. -/
theorem accumulatorStores : Obligations.AccumulatorStores := by
  refine ⟨fun i s hform => ?bc, fun i s hform => ?de, fun i nn s hform => ?nn, fun i n s hform => ?high,
    fun i s hform => ?c⟩
  all_goals rw [encode_of_form hform, exec_of_form hform, Form.run, Form.encode]
  case bc =>
    rw [opLdIndA, fetched_pair, State.fetched_reg]
    exact ⟨rfl, store_effect 1 2 (s.pair .bc) (s.reg .a) s⟩
  case de =>
    rw [opLdIndA, fetched_pair, State.fetched_reg]
    exact ⟨rfl, store_effect 1 2 (s.pair .de) (s.reg .a) s⟩
  case nn =>
    rw [opLdNnA, State.fetched_reg]
    exact ⟨rfl, store_effect 3 4 nn (s.reg .a) s⟩
  case high =>
    rw [opLdhNA, State.fetched_reg, highPage_eq]
    exact ⟨rfl, store_effect 2 3 (wordOf 0xFF n) (s.reg .a) s⟩
  case c =>
    rw [opLdCA, State.fetched_reg, State.fetched_reg, highPage_eq]
    exact ⟨rfl, store_effect 1 2 (wordOf 0xFF (s.reg .c)) (s.reg .a) s⟩

/-- Settles O31: a load or store at the HL of the state before, and then HL written, which is neither A nor memory. -/
theorem hlSteppingTransfers : Obligations.HlSteppingTransfers := by
  refine ⟨fun i k s hform => ?load, fun i k s hform => ?store⟩
  all_goals rw [encode_of_form hform, exec_of_form hform, Form.run]
  case load =>
    rw [opLdAHlStep, fetched_hl]
    generalize hu : (readByte _ (s.fetched 1)).2.setReg .a _ = u
    obtain ⟨ha, hpc, report, frame⟩ := loadByte_effect 1 2 .a (s.pair .hl) s hu
    refine ⟨by cases k <;> rfl, _, rfl, ha, ?hl, hpc, report.setPair .hl _, (frame.setPair .hl _).setCost 2⟩
    case hl => exact (State.setPair_pair u .hl _).trans (by cases k <;> rfl)
  case store =>
    rw [opLdHlStepA, fetched_hl, State.fetched_reg]
    generalize hu : writeByte _ _ (s.fetched 1) = u
    obtain ⟨hstores, hpc, report, frame⟩ := storeByte_effect 1 2 (s.pair .hl) (s.reg .a) s hu
    refine ⟨by cases k <;> rfl, _, rfl, hstores, ?hl, hpc, report.setPair .hl _, (frame.setPair .hl _).setCost 2⟩
    case hl => exact (State.setPair_pair u .hl _).trans (by cases k <;> rfl)

/-! ## 16-bit loads -/

/-- The field y of a pair operand is twice its code, so the code counts in sixteens (R125). -/
theorem opByte_two_mul (x q z : Nat) : opByte x (2 * q) z = BitVec.ofNat 8 (64 * x + z + 16 * q) := by
  rw [opByte_eq, ← Nat.mul_assoc]

/-- Settles O32: for a pair its two registers are written, for SP sp is. -/
theorem ldPairImmediate : Obligations.LdPairImmediate := by
  intro i rp nn s hform
  rw [encode_of_form hform, exec_of_form hform, Form.run, opLdRpNn, Form.encode, opByte_two_mul]
  cases rp with
  | pair p =>
    refine ⟨rfl, _, rfl, State.setPair_pair _ p nn, ?pc, (Report.fetched 3 3 s).setPair p nn, fun q hq => ?halves,
      ((Frame.fetched 3 s).setPair p nn).setCost 3⟩
    case pc => simp
    case halves =>
      cases hq
      exact ⟨State.setPair_hiReg (s.fetched 3) p nn, State.setPair_loReg (s.fetched 3) p nn⟩
  | sp =>
    exact ⟨rfl, _, rfl, rfl, s.fetched_pc 3, { Report.fetched 3 3 s with }, nofun,
      ((Frame.fetched 3 s).setSp nn).setCost 3⟩

/-- Settles O33: sp is written from HL, or its two bytes to memory, the low byte first. -/
theorem stackPointerTransfers : Obligations.StackPointerTransfers := by
  refine ⟨fun i s hform => ?spHl, fun i nn s hform => ?nnSp⟩
  all_goals rw [encode_of_form hform, exec_of_form hform, Form.run, Form.encode]
  case spHl =>
    rw [opLdSpHl, fetched_hl]
    exact ⟨rfl, _, rfl, rfl, s.fetched_pc 1, { Report.fetched 1 2 s with }, ((Frame.fetched 1 s).setSp _).setCost 2⟩
  case nnSp =>
    rw [opLdNnSp, State.fetched_sp, writeWord_eq]
    refine ⟨rfl, _, rfl, ?low, ?high, ?pc, ?report, (((Frame.fetched 3 s).writeByte _ _).writeByte _ _).setCost 5⟩
    case report => constructor <;> simp +contextual
    all_goals simp +contextual

/-! ## What PUSH stores for a pair -/

/-- The value of `rp2` is what PUSH stores (R34, R394). -/
theorem State.rp2_eq_pushValue (s : State) (rp : Rp2) : s.rp2 rp = s.pushValue rp := by
  cases rp with
  | pair p => rfl
  | af => exact rp2_af_value s

theorem State.pushValue_af (s : State) : s.pushValue .af = wordOf (s.reg .a) s.fByte :=
  (rp2_af_value s).symm

theorem fetched_pushValue (n : Nat) (s : State) (rp : Rp2) : (s.fetched n).pushValue rp = s.pushValue rp := by
  cases rp <;> simp [State.pushValue]

/-- Clearing the low nibble of a word is clearing that of its low byte. -/
theorem wordOf_and_low_nibble (hi lo : Byte) : wordOf hi lo &&& 0xFFF0 = wordOf hi (lo &&& 0xF0) := by
  have hmask : (0xFFF0 : Word) = (0xFF : Byte) ++ (0xF0 : Byte) := rfl
  have hhi : hi &&& 0xFF = hi := BitVec.and_allOnes
  rw [wordOf, hmask, BitVec.and_append, hhi]
  rfl

/-- F reads bits 7 to 4 of the byte written to it, and 0 below (R34). -/
theorem State.setF_fByte (s : State) (v : Byte) : (s.setF v).fByte = v &&& 0xF0 := by
  have bit7 : v &&& 0x80 = if v.getLsbD 7 then 0x80 else 0 := v.and_twoPow 7
  have bit6 : v &&& 0x40 = if v.getLsbD 6 then 0x40 else 0 := v.and_twoPow 6
  have bit5 : v &&& 0x20 = if v.getLsbD 5 then 0x20 else 0 := v.and_twoPow 5
  have bit4 : v &&& 0x10 = if v.getLsbD 4 then 0x10 else 0 := v.and_twoPow 4
  have hmask : (0xF0 : Byte) = 0x80 ||| 0x40 ||| 0x20 ||| 0x10 := rfl
  rw [hmask, BitVec.and_or_distrib_left, BitVec.and_or_distrib_left, BitVec.and_or_distrib_left, bit7, bit6, bit5, bit4]
  rfl

/-- What PUSH stores for AF has its low nibble clear already. -/
theorem State.pushValue_af_and (s : State) : s.pushValue .af &&& 0xFFF0 = s.pushValue .af := by
  rw [State.pushValue_af, wordOf_and_low_nibble, State.fByte]
  cases s.fZ <;> cases s.fN <;> cases s.fH <;> cases s.fC <;> rfl

/-- A pair holds the word written to it; AF does not hold the low nibble (R34). -/
theorem State.setRp2_pushValue (s : State) (rp : Rp2) (v : Word) :
    (s.setRp2 rp v).pushValue rp = if rp = .af then v &&& 0xFFF0 else v := by
  cases rp with
  | pair p => exact State.setPair_pair s p v
  | af =>
    have ha : (s.setRp2 .af v).reg .a = hi8 v := s.setReg_reg .a .a (hi8 v)
    have hf : (s.setRp2 .af v).fByte = lo8 v &&& 0xF0 := State.setF_fByte _ _
    rw [State.pushValue_af, ha, hf, ← wordOf_and_low_nibble, wordOf_halves, if_pos rfl]

/-- A word determines its halves. -/
theorem wordOf_inj {hi lo hi' lo' : Byte} : wordOf hi lo = wordOf hi' lo' ↔ hi = hi' ∧ lo = lo' := by
  refine ⟨fun h => ⟨?_, ?_⟩, fun ⟨hhi, hlo⟩ => hhi ▸ hlo ▸ rfl⟩
  · simpa using congrArg hi8 h
  · simpa using congrArg lo8 h

/-- States that agree on what PUSH stores for a pair agree on its registers and flags. -/
theorem agree_of_pushValue_eq {rp : Rp2} {s t : State} (h : t.pushValue rp = s.pushValue rp) :
    (∀ r ∈ rp.regs, t.reg r = s.reg r) ∧ ∀ f ∈ rp.flags, t.flag f = s.flag f := by
  cases rp with
  | pair p =>
    obtain ⟨hhi, hlo⟩ := wordOf_inj.mp h
    simp [Rp2.regs, Rp2.flags, hhi, hlo]
  | af =>
    rw [State.pushValue_af, State.pushValue_af, wordOf_inj] at h
    obtain ⟨ha, hf⟩ := h
    obtain ⟨hz, hn, hh, hc, -⟩ := fByte_bits s
    obtain ⟨hz', hn', hh', hc', -⟩ := fByte_bits t
    rw [hf] at hz' hn' hh' hc'
    refine ⟨by simpa [Rp2.regs] using ha, fun f _ => ?_⟩
    cases f with
    | z => exact hz'.symm.trans hz
    | n => exact hn'.symm.trans hn
    | h => exact hh'.symm.trans hh
    | c => exact hc'.symm.trans hc

/-! ## PUSH -/

/-- PUSH is the push of a call, going on to the next instruction (R394). -/
theorem opPush_eq (rp : Rp2) (s : State) :
    opPush rp s = done 4 ((push16 (s.pushValue rp) (s.fetched 1)).setPc (s.pc + 1)) := by
  have hpc : (push16 (s.pushValue rp) (s.fetched 1)).pc = s.pc + 1 := by simp
  rw [opPush, State.rp2_eq_pushValue, fetched_pushValue, ← hpc]
  rfl

/-- With the array, the word at sp is the one pushed, whatever was read since. -/
theorem popped_of_pushed {v : Word} {s t : State} (pushed : Pushed v s t) (harray : t.config.memory = .array) :
    t.popped = v := by
  have hlow : t.answer [] (s.sp - 2) = lo8 v := pushed.low harray
  have hhigh : t.answer [] (s.sp - 2 + 1) = hi8 v := by
    rw [show s.sp - 2 + 1 = s.sp - 1 from sub_two_add_one s.sp]
    exact pushed.high harray
  rw [State.popped_eq, State.data_eq, pushed.sp, State.answer_fetch_array harray, State.answer_fetchReads_array harray,
    hlow, hhigh, wordOf_halves]

/-- With the array, a pop reads the word at sp: its own fetch and the order of its reads do not matter. -/
theorem State.popped_array {s : State} (h : s.config.memory = .array) : s.popped = s.peekWord s.sp := by
  simp [h]

/-- Settles O34: the push of a call without its jump. -/
theorem pushStoresAPair : Obligations.PushStoresAPair := by
  intro i rp s hform
  rw [encode_of_form hform, exec_of_form hform, Form.run, Form.encode, opByte_two_mul, opPush_eq]
  obtain ⟨t, ht, hpc, pushed, report, frame⟩ := pushJump_effect 1 4 (s.pushValue rp) (s.pc + 1) s
  refine ⟨rfl, t, ht, pushed, hpc, fun harray => ?_, report, frame⟩
  have harray' : t.config.memory = .array := frame.config ▸ harray
  rw [← State.popped_array harray', popped_of_pushed pushed harray']

/-! ## POP -/

/-- What a pop leaves after the fetch of its one byte, before the step ends: sp past the word (R393). -/
theorem pop16_effect (c : Nat) (s : State) {u : State} (hu : (pop16 (s.fetched 1)).2 = u) :
    u.sp = s.sp + 2 ∧ u.pc = s.pc + 1 ∧ Report 1 c (popCalls s) s (u.setCost c) ∧ Frame { sp := true } s u := by
  rw [pop16_snd, State.fetched_sp] at hu
  subst hu
  refine ⟨rfl, s.fetched_pc 1, ?report, ((((Frame.fetched 1 s).record _).setSp _).record _).setSp _⟩
  case report => constructor <;> simp [popCalls]

theorem pop16_fetched_fst (s : State) : (pop16 (s.fetched 1)).1 = s.popped := by
  simp

/-- What POP leaves: the word at sp written to the pair, and sp past it (R395). -/
theorem opPop_effect (rp : Rp2) (s : State) :
    ∃ u t : State, t = u.setRp2 rp s.popped ∧ opPop rp s = .next (t.setCost 3) ∧ t.sp = s.sp + 2 ∧ t.pc = s.pc + 1 ∧
      Report 1 3 (popCalls s) s (t.setCost 3) ∧ Frame { regs := rp.regs, sp := true, flags := rp.flags } s t := by
  rw [opPop, pop16_fetched_fst]
  generalize hu : (pop16 (s.fetched 1)).2 = u
  obtain ⟨hsp, hpc, report, frame⟩ := pop16_effect 3 s hu
  refine ⟨u, _, rfl, rfl, ?sp, ?pc, report.setRp2 rp _, frame.setRp2 rp _⟩
  case sp => cases rp <;> simpa using hsp
  case pc => cases rp <;> simpa using hpc

theorem lo8_getLsbD (v : Word) (k : Fin 8) : (lo8 v).getLsbD k = v.getLsbD k := by
  simp [lo8]

/-- Settles O35: the pair is written with the word at sp, and a flag of F is a bit of its low byte. -/
theorem popLoadsAPair : Obligations.PopLoadsAPair := by
  intro i rp s hform
  rw [encode_of_form hform, exec_of_form hform, Form.run, Form.encode, opByte_two_mul]
  obtain ⟨u, t, hwritten, ht, hsp, hpc, report, frame⟩ := opPop_effect rp s
  refine ⟨rfl, _, ht, hsp, hpc, report, fun p hp => ?pair, fun haf => ?af, frame.setCost 3⟩
  case pair =>
    subst hp hwritten
    exact ⟨State.setPair_hiReg u p s.popped, State.setPair_loReg u p s.popped⟩
  case af =>
    subst haf hwritten
    exact ⟨u.setReg_reg .a .a (hi8 s.popped), lo8_getLsbD s.popped 7, lo8_getLsbD s.popped 6, lo8_getLsbD s.popped 5,
      lo8_getLsbD s.popped 4⟩

/-! ## Round trips -/

/-- A pop after a push, or a return after a call: sp is back, and with the array the word popped is the one pushed. -/
theorem push_then_pop {v : Word} {w : Writes} {s t : State} (pushed : Pushed v s t) (frame : Frame w s t) :
    t.sp + 2 = s.sp ∧ (s.config.memory = .array → t.popped = v) := by
  refine ⟨?_, fun harray => popped_of_pushed pushed (frame.config ▸ harray)⟩
  rw [pushed.sp, BitVec.sub_add_cancel]

/-- What POP leaves after PUSH. Where both name one pair, every register and flag is as before: those outside the pair by
the frames, those of the pair because it holds the value it was pushed with. -/
theorem opPush_opPop (x y : Rp2) (s : State) :
    ∃ t u, opPush x s = .next t ∧ opPop y t = .next u ∧ u.sp = s.sp ∧
      (s.config.memory = .array →
        u.pushValue y = (if y = .af then s.pushValue x &&& 0xFFF0 else s.pushValue x) ∧
        (x = y → (∀ r, u.reg r = s.reg r) ∧ ∀ f, u.flag f = s.flag f)) := by
  obtain ⟨t, ht, -, pushed, -, framePush⟩ := pushJump_effect 1 4 (s.pushValue x) (s.pc + 1) s
  obtain ⟨u₀, u, hwritten, hu, hsp, -, -, framePop⟩ := opPop_effect y t
  obtain ⟨hback, hpopped⟩ := push_then_pop pushed framePush
  refine ⟨t, _, (opPush_eq x s).trans ht, hu, hsp.trans hback, fun harray => ?_⟩
  have hvalue : u.pushValue y = if y = .af then s.pushValue x &&& 0xFFF0 else s.pushValue x := by
    rw [hwritten, State.setRp2_pushValue, hpopped harray]
  refine ⟨hvalue, fun hxy => ?_⟩
  subst hxy
  have hsame : u.pushValue x = s.pushValue x := by
    rw [hvalue]
    split
    next haf => rw [haf, State.pushValue_af_and]
    next => rfl
  obtain ⟨hregs, hflags⟩ := agree_of_pushValue_eq hsame
  refine ⟨fun r => ?_, fun f => ?_⟩
  · by_cases hr : r ∈ x.regs
    · exact hregs r hr
    · exact (framePop.regs r hr).trans (framePush.regs r List.not_mem_nil)
  · by_cases hf : f ∈ x.flags
    · exact hflags f hf
    · exact (framePop.flags f hf).trans (framePush.flags f List.not_mem_nil)

/-- What RET leaves after a step that pushed a return address `v`. -/
theorem opRet_after_push {v : Word} {w : Writes} {s t : State} (pushed : Pushed v s t) (frame : Frame w s t) :
    ∃ u, opRet t = .next u ∧ u.sp = s.sp ∧ (s.config.memory = .array → u.pc = v) := by
  obtain ⟨u, hu, hpc, hsp, -⟩ := popJump_effect 4 t
  obtain ⟨hback, hpopped⟩ := push_then_pop pushed frame
  exact ⟨u, hu, hsp.trans hback, fun harray => hpc.trans (hpopped harray)⟩

/-- CALL and RST push the address after the instruction (R206, R211). -/
theorem call_or_rst_pushes {f : Form} (h : (∃ nn, f = .call nn) ∨ ∃ y, f = .rst y) (s : State) :
    ∃ t, Form.run f s = .next t ∧ Pushed (s.pc + BitVec.ofNat 16 f.length) s t ∧
      Frame { sp := true, bytes := s.stackBytes } s t := by
  rcases h with ⟨nn, rfl⟩ | ⟨y, rfl⟩
  · obtain ⟨t, ht, -, pushed, -, frame⟩ := pushJump_effect 3 6 (s.pc + 3) nn s
    exact ⟨t, (opCall_eq nn s).trans ht, pushed, frame⟩
  · obtain ⟨t, ht, -, pushed, -, frame⟩ := pushJump_effect 1 4 (s.pc + 1) (BitVec.ofNat 16 (8 * y.val)) s
    exact ⟨t, (opRst_eq y s).trans ht, pushed, frame⟩

/-- Settles O36: what was pushed is popped, into a pair by POP and into pc by RET. -/
theorem stackRoundTrips : Obligations.StackRoundTrips := by
  refine ⟨fun i j x y s hi hj => ?pushPop, fun i j s hi hj => ?callRet⟩
  case pushPop =>
    obtain ⟨t, u, ht, hu, rest⟩ := opPush_opPop x y s
    exact ⟨t, u, (exec_of_form hi s).trans ht, (exec_of_form hj t).trans hu, rest⟩
  case callRet =>
    obtain ⟨t, ht, pushed, frame⟩ := call_or_rst_pushes hi s
    obtain ⟨u, hu, rest⟩ := opRet_after_push pushed frame
    exact ⟨t, u, (exec_of_form rfl s).trans ht, (exec_of_form hj t).trans hu, rest⟩

end Sys2Proof.Machine
end

section
/-!
PROOFS. The statements of 46_alu16.md. INC, DEC, ADD HL, ADD SP and LD HL,SP+e are the same kind of action: after the fetch,
a pair or sp is written and, for the last three, flags. The flags of `sp_plus_e` (R430) are carries of the low byte of sp,
which is sp modulo 256.
-/

namespace Sys2Proof

open Sys2Proof.Machine

/-! ## Frames and reports, for the writes of `rp` and of all four flags -/

section
variable {w : Writes} {s t : State}

theorem Frame.setRp (h : Frame w s t) (rp : Rp) (v : Word) :
    Frame { w with regs := w.regs ++ rp.regs, sp := w.sp || rp.isSp } s (t.setRp rp v) := by
  cases rp with
  | pair p =>
    rw [Rp.isSp, Bool.or_false]
    exact h.setPair p v
  | sp =>
    rw [Rp.isSp, Rp.regs, Bool.or_true, List.append_nil]
    exact h.setSp v

theorem Frame.setFlags (h : Frame w s t) (zero sub half carry : Bool) :
    Frame { w with flags := w.flags ++ [.z, .n, .h, .c] } s (t.setFlags zero sub half carry) := by
  have frame := (((h.setFlag .z zero).setFlag .n sub).setFlag .h half).setFlag .c carry
  simp only [List.append_assoc] at frame
  exact frame

/-- sp written before the step ends changes nothing that a report is about. -/
theorem Report.setSp {n k : Nat} {data : List Access} (report : Report n k data s (t.setCost k)) (v : Word) :
    Report n k data s ((t.setSp v).setCost k) :=
  { report with }

theorem Report.setRp {n k : Nat} {data : List Access} (report : Report n k data s (t.setCost k)) (rp : Rp) (v : Word) :
    Report n k data s ((t.setRp rp v).setCost k) := by
  cases rp with
  | pair p => exact report.setPair p v
  | sp => exact report.setSp v

theorem Report.setFlags {n k : Nat} {data : List Access} (report : Report n k data s (t.setCost k))
    (zero sub half carry : Bool) : Report n k data s ((t.setFlags zero sub half carry).setCost k) :=
  (((report.setFlag .z zero).setFlag .n sub).setFlag .h half).setFlag .c carry

end

end Sys2Proof

namespace Sys2Proof.Machine

/-! ## INC and DEC of a pair -/

theorem fetched_rp (n : Nat) (s : State) (rp : Rp) : (s.fetched n).rp rp = s.rp rp := by
  cases rp with
  | pair p => exact fetched_pair n s p
  | sp => exact s.fetched_sp n

theorem State.setRp_rp (s : State) (rp : Rp) (v : Word) : (s.setRp rp v).rp rp = v := by
  cases rp with
  | pair p => exact s.setPair_pair p v
  | sp => rfl

theorem State.setCost_rp (s : State) (c : Nat) (rp : Rp) : (s.setCost c).rp rp = s.rp rp := by
  cases rp <;> rfl

theorem State.setRp_pc (s : State) (rp : Rp) (v : Word) : (s.setRp rp v).pc = s.pc := by
  cases rp <;> simp

/-- What `rp` written after a fetch of `n` bytes leaves. -/
theorem setRp_effect (n c : Nat) (rp : Rp) (v : Word) (s : State) :
    ∃ t, done c ((s.fetched n).setRp rp v) = .next t ∧ t.rp rp = v ∧ t.pc = s.pc + BitVec.ofNat 16 n ∧
      Report n c [] s t ∧ Frame { regs := rp.regs, sp := rp.isSp } s t := by
  refine ⟨_, rfl, ?rp, ?pc, (Report.fetched n c s).setRp rp v, ((Frame.fetched n s).setRp rp v).setCost c⟩
  case rp => exact (State.setCost_rp _ c rp).trans (State.setRp_rp _ rp v)
  case pc => exact (State.setRp_pc _ rp v).trans (s.fetched_pc n)

/-- The field y of a pair operand with q = 1 (R122, R125). -/
theorem opByte_two_mul_add_one (x q z : Nat) : opByte x (2 * q + 1) z = BitVec.ofNat 8 (64 * x + z + 8 + 16 * q) := by
  rw [opByte_eq]
  congr 1
  omega

/-- Settles O50: `rp` is written with its value before the fetch, one up or one down. -/
theorem incrementAndDecrementPair : Obligations.IncrementAndDecrementPair := by
  refine ⟨fun i rp s hform => ?inc, fun i rp s hform => ?dec⟩
  all_goals rw [encode_of_form hform, exec_of_form hform, Form.run, Form.encode]
  case inc =>
    rw [opByte_two_mul, opInc16, fetched_rp]
    exact ⟨rfl, setRp_effect 1 2 rp (s.rp rp + 1) s⟩
  case dec =>
    rw [opByte_two_mul_add_one, opDec16, fetched_rp]
    exact ⟨rfl, setRp_effect 1 2 rp (s.rp rp - 1) s⟩

/-! ## ADD HL,rp -/

/-- The sum of ADD HL,rp as a number (R433). -/
theorem addHlOut_fst_toNat (h v : Word) : (addHlOut h v).1.toNat = (h.toNat + v.toNat) % 65536 :=
  BitVec.toNat_ofNat _ 16

/-- What ADD HL,rp leaves, once its sum and carries are known: three flags and HL written. -/
theorem setFlagsHl_effect (half carry : Bool) (sum : Word) (s : State) :
    ∃ t, done 2 (((((s.fetched 1).setN false).setH half).setC carry).setPair .hl sum) = .next t ∧ t.pair .hl = sum ∧
      t.fN = false ∧ t.fH = half ∧ t.fC = carry ∧ t.pc = s.pc + 1 ∧ Report 1 2 [] s t ∧
      Frame { regs := [.h, .l], flags := [.n, .h, .c] } s t := by
  have report : Report 1 2 [] s (((((s.fetched 1).setN false).setH half).setC carry).setCost 2) :=
    (((Report.fetched 1 2 s).setFlag .n false).setFlag .h half).setFlag .c carry
  have frame : Frame { flags := [.n, .h, .c] } s ((((s.fetched 1).setN false).setH half).setC carry) :=
    (((Frame.fetched 1 s).setFlag .n false).setFlag .h half).setFlag .c carry
  refine ⟨_, rfl, ?hl, rfl, rfl, rfl, s.fetched_pc 1, report.setPair .hl sum, (frame.setPair .hl sum).setCost 2⟩
  case hl => exact State.setPair_pair ((((s.fetched 1).setN false).setH half).setC carry) .hl sum

/-- Settles O51: the sum and the carries are those of the values before the fetch. -/
theorem addToHl : Obligations.AddToHl := by
  intro i rp s hform h v
  rw [encode_of_form hform, exec_of_form hform, Form.run, opAddHl, Form.encode, opByte_two_mul_add_one, fetched_hl,
    fetched_rp]
  obtain ⟨t, ht, hsum, rest⟩ := setFlagsHl_effect _ _ (addHlOut (s.pair .hl) (s.rp rp)).1 s
  refine ⟨rfl, t, ht, ?_, rest⟩
  rw [hsum, addHlOut_fst_toNat]

/-! ## sp plus an offset -/

theorem lo8_toNat (v : Word) : (lo8 v).toNat = v.toNat % 256 :=
  BitVec.extractLsb'_toNat 0 8 v

/-- The half-carry of `sp_plus_e`: the low nibble of sp is that of its low byte (R430). -/
theorem spPlusE_half (sp : Word) (e : Byte) :
    (spPlusE sp e).2.1 = decide (sp.toNat % 16 + e.toNat % 16 > 0xF) := by
  have hlow : sp.toNat % 256 % 16 = sp.toNat % 16 := Nat.mod_mod_of_dvd _ (by decide)
  rw [spPlusE, lo4, lo4, lo8_toNat, hlow]

/-- The carry of `sp_plus_e` (R430). -/
theorem spPlusE_carry (sp : Word) (e : Byte) :
    (spPlusE sp e).2.2 = decide (sp.toNat % 256 + e.toNat > 0xFF) := by
  rw [spPlusE, lo8_toNat]

/-- What the flags of `sp_plus_e` written at the end of a step leave of the state `u` before them (R430). -/
theorem spPlusE_flags_effect {n k : Nat} {data : List Access} {w : Writes} {s u : State}
    (report : Report n k data s (u.setCost k)) (frame : Frame w s u) (sp : Word) (e : Byte) :
    ∃ t, done k (u.setFlags false false (spPlusE sp e).2.1 (spPlusE sp e).2.2) = .next t ∧ t.sp = u.sp ∧
      t.pair .hl = u.pair .hl ∧ t.pc = u.pc ∧ t.fZ = false ∧ t.fN = false ∧
      t.fH = decide (sp.toNat % 16 + e.toNat % 16 > 0xF) ∧ t.fC = decide (sp.toNat % 256 + e.toNat > 0xFF) ∧
      Report n k data s t ∧ Frame { w with flags := w.flags ++ [.z, .n, .h, .c] } s t :=
  ⟨_, rfl, rfl, rfl, rfl, rfl, rfl, spPlusE_half sp e, spPlusE_carry sp e, report.setFlags _ _ _ _,
    (frame.setFlags _ _ _ _).setCost k⟩

/-- Settles O52: sp or HL is written with the sum of `sp_plus_e`, then all four flags. -/
theorem stackPointerPlusOffset : Obligations.StackPointerPlusOffset := by
  refine ⟨fun i e s hform => ?addSp, fun i e s hform => ?ldHlSp⟩
  all_goals
    rw [encode_of_form hform, exec_of_form hform, Form.run]
    have hsum := add_sext16_toNat s.sp e
  case addSp =>
    rw [opAddSp, State.fetched_sp]
    obtain ⟨t, ht, hsp, -, hpc, hz, hn, hh, hc, report, frame⟩ :=
      spPlusE_flags_effect ((Report.fetched 2 4 s).setSp _) ((Frame.fetched 2 s).setSp _) s.sp e
    refine ⟨rfl, t, ht, ?_, hz, hn, hh, hc, hpc.trans (s.fetched_pc 2), report, frame⟩
    rw [hsp, ← hsum]
    rfl
  case ldHlSp =>
    rw [opLdHlSp, State.fetched_sp]
    obtain ⟨t, ht, -, hhl, hpc, hz, hn, hh, hc, report, frame⟩ :=
      spPlusE_flags_effect ((Report.fetched 2 3 s).setPair .hl _) ((Frame.fetched 2 s).setPair .hl _) s.sp e
    refine ⟨rfl, t, ht, ?_, hz, hn, hh, hc, hpc.trans (s.fetched_pc 2), report, frame⟩
    rw [hhl, State.setPair_pair, ← hsum]
    rfl

end Sys2Proof.Machine
end

section
/-!
PROOFS. The statements of 47_system.md. NOP is the fetch alone, HALT and STOP are jumps to their own address, and DI and EI
write IME and EI_PENDING after the fetch; ILLEGAL leaves what the opcode fetch of R176 leaves.
-/

namespace Sys2Proof

open Sys2Proof.Machine

/-! ## Frame and report, for the write of EI_PENDING -/

section
variable {w : Writes} {s t : State}

theorem Frame.setEiPending (h : Frame w s t) (v : Bool) : Frame { w with eiPending := true } s (t.setEiPending v) :=
  ⟨h.regs, h.sp, h.flags, h.ime, nofun, h.bytes, h.config, h.specified⟩

theorem Report.setEiPending {n c : Nat} {data : List Access} (h : Report n c data s t) (v : Bool) :
    Report n c data s (t.setEiPending v) :=
  { h with }

end

end Sys2Proof

namespace Sys2Proof.Machine

/-! ## ILLEGAL -/

/-- Settles O10: the state in the fault is the one the opcode fetch leaves. -/
theorem illegalBytesStop : Obligations.IllegalBytesStop := by
  intro op s
  have hexec : exec (.illegal op) s = opIllegal op s := exec_of_form rfl s
  exact ⟨s.opcodeRead, hexec, rfl, opcodeRead_report s, opcodeRead_frame s⟩

/-! ## NOP, HALT, STOP, DI and EI -/

/-- Settles O57: NOP, HALT and STOP are the jump of `jump_effect`, to the next instruction or to their own address; DI and
EI are the fetch with IME and EI_PENDING written. -/
theorem systemInstructions : Obligations.SystemInstructions := by
  refine ⟨fun i s hform => ?nop, fun i s hform => ?halt, fun i n s hform => ?stop, fun i s hform => ?di,
    fun i s hform => ?ei⟩
  all_goals rw [encode_of_form hform, exec_of_form hform, Form.run, Form.encode]
  case nop =>
    rw [opNop, done_fetched_eq_setPc]
    exact ⟨rfl, jump_effect 1 1 (s.pc + 1) s⟩
  case halt => exact ⟨rfl, jump_effect 1 1 s.pc s⟩
  case stop => exact ⟨rfl, jump_effect 1 1 s.pc s⟩
  case di =>
    exact ⟨rfl, _, rfl, rfl, rfl, s.fetched_pc 1, ((Report.fetched 1 1 s).setIme false).setEiPending false,
      (((Frame.fetched 1 s).setIme false).setEiPending false).setCost 1⟩
  case ei =>
    exact ⟨rfl, _, rfl, rfl, s.fetched_pc 1, (Report.fetched 1 1 s).setEiPending true,
      ((Frame.fetched 1 s).setEiPending true).setCost 1⟩

end Sys2Proof.Machine
end

section
/-!
PROOFS. The statements of 60_exceptions.md and 70_reset_and_hazards.md. A step is never refused. An accepted interrupt
is the call of `pushJump_effect` to its vector, with the read at pc for its fetch and IME and EI_PENDING cleared; a wake
is the jump of `jump_effect`. Both go on at `resumeAt`.
-/

namespace Sys2Proof.Machine

/-! ## What a step answers -/

/-- No step is refused: it runs an instruction that completes, or faults (R493, R494). -/
theorem step_ne_refused (s : State) (r : Refusal) : step s ≠ .refused r := by
  intro h
  cases hdesc : hasDescriptor s.config.opcodeSet (s.peek s.pc) with
  | false => cases (step_no_descriptor hdesc).symm.trans h
  | true =>
    obtain ⟨u, hu, -⟩ := exec_window hdesc
    cases hfirst : firstUnspecified (formReads s.windowInstr.form s) s with
    | none => cases (step_runs hdesc hfirst hu).symm.trans h
    | some n => cases (step_unspecified hdesc hfirst).symm.trans h

/-- Settles O12: the window's instruction completes, and it reads nothing unspecified that faults. -/
theorem stepCompletes : Obligations.StepCompletes := by
  refine ⟨fun s hdesc hspec => ?_, step_ne_refused⟩
  obtain ⟨u, hu, -⟩ := exec_window hdesc
  exact ⟨_, step_runs hdesc (firstUnspecified_none (hspec.imp_right fun hall n _ => hall n)) hu⟩

/-! ## Interrupt entry -/

/-- Interrupt entry is a call of the vector after a fetch of one byte, and IME and EI_PENDING cleared (R500). The model
clears them before the push, which does not see them with either kind of `MEM`. -/
theorem takeInterrupt_of_call (k : Nat) {s t : State}
    (h : done 5 ((push16 s.resumeAt (s.fetched 1)).setPc (interruptVector k)) = .next t) :
    takeInterrupt k s = (t.setIme false).setEiPending false := by
  cases h
  match s with
  | { config := { memory := .array, .. }, .. } => rfl
  | { config := { memory := .external, .. }, .. } => rfl

/-- What interrupt entry leaves: the address to go on at pushed, pc at the vector, IME and EI_PENDING clear. -/
theorem takeInterrupt_effect (k : Nat) (s : State) :
    (takeInterrupt k s).pc = interruptVector k ∧ (takeInterrupt k s).ime = false ∧
      (takeInterrupt k s).eiPending = false ∧ Pushed s.resumeAt s (takeInterrupt k s) ∧
      Report 1 5 (pushCalls s.resumeAt s) s (takeInterrupt k s) ∧
      Frame { sp := true, ime := true, eiPending := true, bytes := s.stackBytes } s (takeInterrupt k s) := by
  obtain ⟨t, ht, hpc, pushed, report, frame⟩ := pushJump_effect 1 5 s.resumeAt (interruptVector k) s
  rw [takeInterrupt_of_call k ht]
  exact ⟨hpc, rfl, rfl, ⟨pushed.sp, pushed.high, pushed.low⟩, (report.setIme false).setEiPending false,
    (frame.setIme false).setEiPending false⟩

/-- Settles O58: what the call answers is decided by the port, k, IME and the read of sp, in this order; an accepted
interrupt leaves what `takeInterrupt_effect` says. -/
theorem interruptEntry : Obligations.InterruptEntry := by
  intro k s
  refine ⟨fun hport => ?absent, fun hport hk => ?index, fun hport hk hime => ?masked,
    fun hport hk hime => ⟨fun hfault hsp => ?fault, fun hspec => ?accepted⟩⟩
  case absent => simp [interrupt, hport]
  case index => simp [interrupt, hport, hk]
  case masked => simp [interrupt, hport, hk.not_gt, hime]
  case fault =>
    have hread : firstUnspecified [.sp] s = some .sp := by
      rw [firstUnspecified_some]
      exact ⟨hfault, [], [], rfl, nofun, hsp⟩
    simp [interrupt, hport, hk.not_gt, hime, hread]
  case accepted =>
    have hread : firstUnspecified [.sp] s = none :=
      firstUnspecified_none (hspec.imp_right List.forall_mem_singleton.mpr)
    exact ⟨takeInterrupt k s, by simp [interrupt, hport, hk.not_gt, hime, hread], takeInterrupt_effect k s⟩

/-! ## Returning from an interrupt -/

/-- Settles O60: RETI pops the address that the entry pushed; neither writes a register or flag, and EI_PENDING stays as
the entry left it. -/
theorem interruptThenReti : Obligations.InterruptThenReti := by
  intro k i s t hinterrupt hform
  obtain rfl : t = takeInterrupt k s := by
    rcases interrupt_next hinterrupt with ⟨-, -, ht⟩ | ⟨hreply, -⟩
    · exact ht
    · cases hreply
  obtain ⟨-, -, hei, pushed, -, frameEntry⟩ := takeInterrupt_effect k s
  obtain ⟨-, -, hreti⟩ := returns
  obtain ⟨-, u, hu, hpc, hsp, hime, -, frameReti⟩ := hreti i _ hform
  obtain ⟨hback, hpopped⟩ := push_then_pop pushed frameEntry
  exact ⟨u, hu, fun harray => hpc.trans (hpopped harray), hsp.trans hback, hime, (frameReti.eiPending rfl).trans hei,
    fun r => (frameReti.regs r List.not_mem_nil).trans (frameEntry.regs r List.not_mem_nil),
    fun f => (frameReti.flags f List.not_mem_nil).trans (frameEntry.flags f List.not_mem_nil)⟩

/-! ## Wake -/

/-- Settles O59: a wake is a jump at no cost to the address to go on at, with the read at pc for its fetch. -/
theorem wakeLeavesHaltAndStop : Obligations.WakeLeavesHaltAndStop := by
  intro s
  refine ⟨fun hport => by simp [wake, hport], fun hport => ?_⟩
  have hwake : wake s = .next (.woken, wakeState s) := by simp [wake, hport]
  obtain ⟨t, ht, hjump⟩ := jump_effect 1 0 s.resumeAt s
  obtain rfl : wakeState s = t := Host.Outcome.next.inj ht
  exact ⟨_, hwake, hjump⟩

/-! ## Construction -/

/-- No step has run and no call has been made, so the invariant asks only for the memory (R60, R86). -/
theorem inv_initialState (profile : ResetProfile) (cfg : Config) (v : Drawn) {m : Memory} (hm : Memory.wf m = true) :
    Inv (initialState profile cfg v m) := by
  cases profile <;> exact ⟨hm, fun _ => rfl, Nat.zero_le 6, Nat.zero_le 5⟩

/-- Settles O16: construction gives the initial state of its profile, and `State.reset` is that of `POWER_ON`. -/
theorem invariantAtConstruction : Obligations.InvariantAtConstruction := by
  refine ⟨fun profile cfg v m s hm hs => ?_, construct_eq .powerOn Config.atReset Drawn.zero [],
    inv_initialState .powerOn Config.atReset Drawn.zero rfl⟩
  obtain rfl : initialState profile cfg v m = s := Except.ok.inj ((construct_eq profile cfg v m).symm.trans hs)
  exact inv_initialState profile cfg v hm

end Sys2Proof.Machine
end
